-- ==== Sys2Proof/Word.lean ====
section
/-! DEFINITION. The two word types of the engine: a byte of the SPI wire or of host memory, and a 32-bit
register, address or operation word (00_scope.md R6: REG_W and ADDR_W are 32; 20_memory.md R31). -/

namespace Sys2Proof

/-- One byte of the SPI wire (20_memory.md R39) or of host memory (R34, R35). -/
abbrev Byte := BitVec 8

/-- A 32-bit register value, host-memory byte address or operation word (00_scope.md R6). -/
abbrev Word := BitVec 32

end Sys2Proof
end

