-- ==== Sys2Proof/Config.lean ====
section
/-! DEFINITION. The parameters of 00_scope.md R6: those the spec fixes as numbers, and those it leaves OPEN as
constants without a body, so that a theorem holds whatever they are. -/

namespace Sys2Proof.Config

/-- `BLOCK_LEN`: a data block is always exactly 512 bytes (00_scope.md R6). -/
abbrev blockLen : Nat := 512

/-- `NCR_MAX`: the response poll reads at most 8 bytes (00_scope.md R6, 41_command.md R76). -/
abbrev ncrMax : Nat := 8

/-- `IDLE_BYTE`: the byte the engine sends when it has none of its own (00_scope.md R6, 20_memory.md R39). -/
abbrev idleByte : Byte := 0xFF#8

/-- `IDLE_MAX`: the most idle bytes of one IDLE operation (00_scope.md R6). -/
abbrev idleMax : Nat := 1024

/-- `SHORT_MAX`: the most bytes of one RECV_SHORT (00_scope.md R6). -/
abbrev shortMax : Nat := 512

/-- Reset value of CTRL.CMD_RETRY (00_scope.md R6, 10_state.md R11). -/
abbrev cmdRetryReset : BitVec 4 := 3#4

/-- Reset value of TOUT_READ in ticks (00_scope.md R6, 10_state.md R10). -/
abbrev toutReadReset : Word := 100#32

/-- Reset value of TOUT_BUSY in ticks (00_scope.md R6, 10_state.md R10). -/
abbrev toutBusyReset : Word := 500#32

/-- `SDSPI_BASE`: where the platform puts the register window in the host's address space. OPEN in
00_scope.md R6 and 20_memory.md R44, so it has no body here (assumption log 11). -/
opaque sdspiBase : Word

/-- `TICK_PERIOD`: the real-time length of one tick, in microseconds. OPEN in 00_scope.md R6 and 10_state.md
R27. No rule computes with it (R27: ticks occur at any rate), so no step reads it (assumption log 11). -/
opaque tickPeriod : Nat

/-- The FREE VALUE of the Card agent: the byte it answers to exchange number `n` when no answer is scripted.
00_scope.md R4: "the byte is a draw (any value 0x00-0xFF)"; no body, so nothing can be proved of it
(assumption log 4). -/
opaque cardByte : Nat → Byte

end Sys2Proof.Config
end

