-- ==== Sys2Proof/Syntax.lean ====
section
/-! DEFINITION. The operations of the engine, one constructor per row of spec/opcode_table.json (30_encoding.md
R51). An operation word is the engine's analogue of an instruction (00_scope.md, glossary). -/

namespace Sys2Proof

/-- Response kinds, the RKIND field (30_encoding.md R50, R57). -/
inductive RKind where
  | noResp
  | r1
  | r1b
  | r2
  | r3
  | r7
deriving DecidableEq, Repr

/-- The 19 operations (30_encoding.md R51), with the fields R50 gives each as operands. -/
inductive Instr where
  /-- CRC_CLEAR, format K (40_crc.md R71). -/
  | crcClear (c7 c16 : Bool)
  /-- CRC7_FEED, format B (40_crc.md R72). -/
  | crc7Feed (byte : Byte)
  /-- CRC16_FEED, format B (40_crc.md R73). -/
  | crc16Feed (byte : Byte)
  /-- SEND_CMD.NONE, format C (41_command.md R86). -/
  | sendCmdNone (idx : BitVec 6)
  /-- SEND_CMD.R1, format C (41_command.md R87). -/
  | sendCmdR1 (idx : BitVec 6)
  /-- SEND_CMD.R1B, format C (41_command.md R88). -/
  | sendCmdR1B (idx : BitVec 6)
  /-- SEND_CMD.R2, format C (41_command.md R89). -/
  | sendCmdR2 (idx : BitVec 6)
  /-- SEND_CMD.R3, format C (41_command.md R90). -/
  | sendCmdR3 (idx : BitVec 6)
  /-- SEND_CMD.R7, format C (41_command.md R91). -/
  | sendCmdR7 (idx : BitVec 6)
  /-- RECEIVE, format N (42_data_transfer.md R95). -/
  | receive
  /-- RECV_SHORT, format L (42_data_transfer.md R96). -/
  | recvShort (len : BitVec 10)
  /-- TRANSMIT, format T with MULTI = 0 and FINAL = 0 (42_data_transfer.md R100). -/
  | transmit
  /-- TRANSMIT.M, format T with MULTI = 1 and FINAL = 0 (42_data_transfer.md R101). -/
  | transmitM
  /-- TRANSMIT.MF, format T with MULTI = 1 and FINAL = 1 (42_data_transfer.md R102). -/
  | transmitMF
  /-- WAIT_READY, format N (43_bus_control.md R104). -/
  | waitReady
  /-- SELECT, format N (43_bus_control.md R105). -/
  | select
  /-- DESELECT, format N (43_bus_control.md R106). -/
  | deselect
  /-- RESYNC, format N (43_bus_control.md R107). -/
  | resync
  /-- IDLE, format I (43_bus_control.md R108). -/
  | idle (n : BitVec 11)
deriving DecidableEq, Repr

end Sys2Proof
end

