-- ==== Sys2Proof/WellFormed.lean ====
section
/-! DEFINITION. Which operations have legal field values (30_encoding.md R50 and the second and third lines of
`legal` in R52). A field's width is its type; what is checked here is the range a width does not give. -/

namespace Sys2Proof

/-- The legal field values of R50: LEN is 1..512 and N is 1..1024, every other field is any value. -/
def Instr.wf : Instr → Bool
  | .crcClear _ _ => true
  | .crc7Feed _ => true
  | .crc16Feed _ => true
  | .sendCmdNone _ => true
  | .sendCmdR1 _ => true
  | .sendCmdR1B _ => true
  | .sendCmdR2 _ => true
  | .sendCmdR3 _ => true
  | .sendCmdR7 _ => true
  | .receive => true
  | .recvShort len => decide (1 ≤ len.toNat) && decide (len.toNat ≤ Config.shortMax)
  | .transmit => true
  | .transmitM => true
  | .transmitMF => true
  | .waitReady => true
  | .select => true
  | .deselect => true
  | .resync => true
  | .idle n => decide (1 ≤ n.toNat) && decide (n.toNat ≤ Config.idleMax)

end Sys2Proof
end

