-- ==== Sys2Proof/Decode.lean ====
section
/-! DEFINITION. From an operation word to an operation (30_encoding.md R49 to R52), total on every 32-bit word
and rejecting by name, and the encoder. The decoder says which ROW of R51 a word selects; the ranges of LEN and
N are `Instr.wf` and are checked, with COUNT, in the decode step (R52; assumption log 13). -/

namespace Sys2Proof

/-- Why a word selects no row of R51 (30_encoding.md R52 lists the cases). -/
inductive DecodeError where
  /-- Opcode 0x0, 0xD, 0xE or 0xF. -/
  | reservedOpcode
  /-- SEND_CMD with RKIND 6 or 7. -/
  | reservedRkind
  /-- TRANSMIT with FINAL = 1 and MULTI = 0. -/
  | finalWithoutMulti
  /-- A bit the format does not name is 1 (30_encoding.md R49). -/
  | reservedBit
deriving DecidableEq, Repr

/-- One row of the opcode map (30_encoding.md R51). -/
structure OpRow where
  mnemonic : String
  pattern : Word
  mask : Word
deriving DecidableEq, Repr

/-- "A word w selects a row when `(w & mask) == match`" (30_encoding.md R51). -/
def OpRow.selects (r : OpRow) (w : Word) : Bool := w &&& r.mask == r.pattern

/-- The opcode map of 30_encoding.md R51. -/
def opcodeMap : List OpRow := [
  ⟨"CRC_CLEAR", 0x00000001#32, 0xFFFCFFFF#32⟩,
  ⟨"CRC7_FEED", 0x00000002#32, 0xFF00FFFF#32⟩,
  ⟨"CRC16_FEED", 0x00000003#32, 0xFF00FFFF#32⟩,
  ⟨"SEND_CMD.NONE", 0x00000004#32, 0xFFFFFC0F#32⟩,
  ⟨"SEND_CMD.R1", 0x00000404#32, 0xFFFFFC0F#32⟩,
  ⟨"SEND_CMD.R1B", 0x00000804#32, 0xFFFFFC0F#32⟩,
  ⟨"SEND_CMD.R2", 0x00000C04#32, 0xFFFFFC0F#32⟩,
  ⟨"SEND_CMD.R3", 0x00001004#32, 0xFFFFFC0F#32⟩,
  ⟨"SEND_CMD.R7", 0x00001404#32, 0xFFFFFC0F#32⟩,
  ⟨"RECEIVE", 0x00000005#32, 0xFFFFFFFF#32⟩,
  ⟨"RECV_SHORT", 0x00000006#32, 0xFC00FFFF#32⟩,
  ⟨"TRANSMIT", 0x00000007#32, 0xFFFFFFFF#32⟩,
  ⟨"TRANSMIT.M", 0x00010007#32, 0xFFFFFFFF#32⟩,
  ⟨"TRANSMIT.MF", 0x00030007#32, 0xFFFFFFFF#32⟩,
  ⟨"WAIT_READY", 0x00000008#32, 0xFFFFFFFF#32⟩,
  ⟨"SELECT", 0x00000009#32, 0xFFFFFFFF#32⟩,
  ⟨"DESELECT", 0x0000000A#32, 0xFFFFFFFF#32⟩,
  ⟨"RESYNC", 0x0000000B#32, 0xFFFFFFFF#32⟩,
  ⟨"IDLE", 0x0000000C#32, 0xF800FFFF#32⟩]

/-- IDX, bits [9:4] (30_encoding.md R50). -/
def fieldIdx (w : Word) : BitVec 6 := w.extractLsb' 4 6

/-- RKIND, bits [12:10] (30_encoding.md R50). -/
def fieldRkind (w : Word) : BitVec 3 := w.extractLsb' 10 3

/-- BYTE, bits [23:16] (30_encoding.md R50). -/
def fieldByte (w : Word) : Byte := w.extractLsb' 16 8

/-- LEN, bits [25:16] (30_encoding.md R50). -/
def fieldLen (w : Word) : BitVec 10 := w.extractLsb' 16 10

/-- N, bits [26:16] (30_encoding.md R50). -/
def fieldN (w : Word) : BitVec 11 := w.extractLsb' 16 11

/-- The reason a word that selects no row is illegal, in the order of R52's list: opcode, RKIND, FINAL without
MULTI, else a reserved bit. -/
def rejectReason (w : Word) : DecodeError :=
  let opcode := (w.extractLsb' 0 4).toNat
  if opcode = 0 ∨ 0xC < opcode then .reservedOpcode
  else if opcode = 4 ∧ 5 < (fieldRkind w).toNat then .reservedRkind
  else if w = 0x00020007#32 then .finalWithoutMulti
  else .reservedBit

/-- The row of R51 that a word selects, with the operand fields of R50. Total; a word that selects no row is
rejected by name. -/
def decode (w : Word) : Except DecodeError Instr :=
  if w &&& 0xFFFCFFFF#32 = 0x00000001#32 then .ok (.crcClear (w.getLsbD 16) (w.getLsbD 17))
  else if w &&& 0xFF00FFFF#32 = 0x00000002#32 then .ok (.crc7Feed (fieldByte w))
  else if w &&& 0xFF00FFFF#32 = 0x00000003#32 then .ok (.crc16Feed (fieldByte w))
  else if w &&& 0xFFFFFC0F#32 = 0x00000004#32 then .ok (.sendCmdNone (fieldIdx w))
  else if w &&& 0xFFFFFC0F#32 = 0x00000404#32 then .ok (.sendCmdR1 (fieldIdx w))
  else if w &&& 0xFFFFFC0F#32 = 0x00000804#32 then .ok (.sendCmdR1B (fieldIdx w))
  else if w &&& 0xFFFFFC0F#32 = 0x00000C04#32 then .ok (.sendCmdR2 (fieldIdx w))
  else if w &&& 0xFFFFFC0F#32 = 0x00001004#32 then .ok (.sendCmdR3 (fieldIdx w))
  else if w &&& 0xFFFFFC0F#32 = 0x00001404#32 then .ok (.sendCmdR7 (fieldIdx w))
  else if w = 0x00000005#32 then .ok .receive
  else if w &&& 0xFC00FFFF#32 = 0x00000006#32 then .ok (.recvShort (fieldLen w))
  else if w = 0x00000007#32 then .ok .transmit
  else if w = 0x00010007#32 then .ok .transmitM
  else if w = 0x00030007#32 then .ok .transmitMF
  else if w = 0x00000008#32 then .ok .waitReady
  else if w = 0x00000009#32 then .ok .select
  else if w = 0x0000000A#32 then .ok .deselect
  else if w = 0x0000000B#32 then .ok .resync
  else if w &&& 0xF800FFFF#32 = 0x0000000C#32 then .ok (.idle (fieldN w))
  else .error (rejectReason w)

/-- Format N (30_encoding.md R49): only OPCODE. -/
def wordN (opcode : BitVec 4) : Word := 0#28 ++ opcode

/-- Format C: RKIND in [12:10], IDX in [9:4] (30_encoding.md R49). -/
def wordC (rkind : BitVec 3) (idx : BitVec 6) : Word := 0#19 ++ rkind ++ idx ++ 4#4

/-- Format K: C16 in bit 17, C7 in bit 16 (30_encoding.md R49). -/
def wordK (c16 c7 : Bool) : Word := 0#14 ++ BitVec.ofBool c16 ++ BitVec.ofBool c7 ++ 0#12 ++ 1#4

/-- Format B: BYTE in [23:16] (30_encoding.md R49). -/
def wordB (byte : Byte) (opcode : BitVec 4) : Word := 0#8 ++ byte ++ 0#12 ++ opcode

/-- Format L: LEN in [25:16] (30_encoding.md R49). -/
def wordL (len : BitVec 10) : Word := 0#6 ++ len ++ 0#12 ++ 6#4

/-- Format T: FINAL in bit 17, MULTI in bit 16 (30_encoding.md R49). -/
def wordT (final multi : Bool) : Word :=
  0#14 ++ BitVec.ofBool final ++ BitVec.ofBool multi ++ 0#12 ++ 7#4

/-- Format I: N in [26:16] (30_encoding.md R49). -/
def wordI (n : BitVec 11) : Word := 0#5 ++ n ++ 0#12 ++ 0xC#4

/-- The operation word of an operation, built field by field from the formats of R49. -/
def encode : Instr → Word
  | .crcClear c7 c16 => wordK c16 c7
  | .crc7Feed byte => wordB byte 2#4
  | .crc16Feed byte => wordB byte 3#4
  | .sendCmdNone idx => wordC 0#3 idx
  | .sendCmdR1 idx => wordC 1#3 idx
  | .sendCmdR1B idx => wordC 2#3 idx
  | .sendCmdR2 idx => wordC 3#3 idx
  | .sendCmdR3 idx => wordC 4#3 idx
  | .sendCmdR7 idx => wordC 5#3 idx
  | .receive => wordN 5#4
  | .recvShort len => wordL len
  | .transmit => wordT false false
  | .transmitM => wordT false true
  | .transmitMF => wordT true true
  | .waitReady => wordN 8#4
  | .select => wordN 9#4
  | .deselect => wordN 0xA#4
  | .resync => wordN 0xB#4
  | .idle n => wordI n

/-- The mnemonic of an operation's row in 30_encoding.md R51. -/
def mnemonic : Instr → String
  | .crcClear _ _ => "CRC_CLEAR"
  | .crc7Feed _ => "CRC7_FEED"
  | .crc16Feed _ => "CRC16_FEED"
  | .sendCmdNone _ => "SEND_CMD.NONE"
  | .sendCmdR1 _ => "SEND_CMD.R1"
  | .sendCmdR1B _ => "SEND_CMD.R1B"
  | .sendCmdR2 _ => "SEND_CMD.R2"
  | .sendCmdR3 _ => "SEND_CMD.R3"
  | .sendCmdR7 _ => "SEND_CMD.R7"
  | .receive => "RECEIVE"
  | .recvShort _ => "RECV_SHORT"
  | .transmit => "TRANSMIT"
  | .transmitM => "TRANSMIT.M"
  | .transmitMF => "TRANSMIT.MF"
  | .waitReady => "WAIT_READY"
  | .select => "SELECT"
  | .deselect => "DESELECT"
  | .resync => "RESYNC"
  | .idle _ => "IDLE"

/-- The word an opcode-table row is given as: a number whose low `nbits` bits are the word (every row has 32). -/
def tableWord (nbits w : Nat) : Word := BitVec.ofNat 32 (w % 2 ^ nbits)

/-- What the decoder reads from a word numbered as spec/opcode_table.json numbers it. -/
def decodeTableWord (nbits w : Nat) : Option Instr :=
  match decode (tableWord nbits w) with
  | .ok i => some i
  | .error _ => none

end Sys2Proof
end

