-- ==== Sys2Proof/Machine/State.lean ====
section
/-! DEFINITION. Everything the spec gives the machine, as plain data: the registers of 10_state.md R10 to R21, the
internal state of R25, the wire trace of 20_memory.md R39 and R40, host memory (R31), and the model's own fields
for the other agents (00_scope.md R4): the coming turns, the card's coming answers and what the host last read. -/

namespace Sys2Proof.Machine

/-- The error codes of 60_exceptions.md R112; codes 9..15 are never produced. -/
inductive ErrCode where
  | noError
  | onDrive
  | read
  | write
  | writeProtect
  | invalidSector
  | cardRemoved
  | invalidMedia
  | illegalOp
deriving DecidableEq, Repr

/-- The completion classes of 60_exceptions.md R113; code 7 is never produced. -/
inductive CompletionClass where
  | ok
  | nack
  | crc
  | timeout
  | error
  | token
  | illegal
deriving DecidableEq, Repr

/-- The fields of CTRL (10_state.md R11); the reserved bits have no storage. -/
structure Ctrl where
  ie : Bool
  cmdRetry : BitVec 4
deriving DecidableEq, Repr

/-- The fields of STATUS (10_state.md R12) but CS, which mirrors `cs` and is read from it. -/
structure Status where
  busy : Bool
  done : Bool
  rej : Bool
  err : ErrCode
  cls : CompletionClass
  retryable : Bool
  needsCheck : Bool
  stopped : Bool
  derr : BitVec 4
  attempts : BitVec 4
deriving DecidableEq, Repr

/-- How a data block failed: the triple (err, cls, retryable) of 42_data_transfer.md R93 and R97. -/
structure Failure where
  err : ErrCode
  cls : CompletionClass
  retryable : Bool
deriving DecidableEq, Repr

/-- Where a `WaitUntil` (10_state.md R28) stands: `first`, its first exchange has not begun and `t0` is not latched;
`again`, `t0` is latched and the next exchange ends with the two tests (assumption log 20). -/
inductive WaitPos where
  | first
  | again
deriving DecidableEq, Repr

/-- The three actions of `Resync()` (41_command.md R81). -/
inductive ResyncPos where
  | low
  | clock
  | high
deriving DecidableEq, Repr

/-- A position inside CmdCore (41_command.md R84); `cls` is the class of the R1 found. -/
inductive CmdPos where
  /-- The first frame byte of the call, whose step also clears `attempt`. -/
  | start
  /-- Frame byte `k`, 0..5 (R74). -/
  | frame (k : Nat)
  /-- The stuff byte after a CMD12 frame (R75). -/
  | stuff
  /-- Poll byte `k`, 0..7 (R76). -/
  | poll (k : Nat)
  /-- Tail byte `k` (R79). -/
  | tail (k : Nat) (cls : CompletionClass)
  /-- The R1B busy wait (R80). -/
  | busy (w : WaitPos) (cls : CompletionClass)
  /-- The resync before the next attempt (R81, R82). -/
  | resync (p : ResyncPos)
deriving DecidableEq, Repr

/-- A position inside RecvPacket (42_data_transfer.md R93). -/
inductive RecvPos where
  | token (w : WaitPos)
  | data (j : Nat)
  | crcHi
  | crcLo
deriving DecidableEq, Repr

/-- A position inside one block of TransmitBody (42_data_transfer.md R99). -/
inductive SendPos where
  | ready (w : WaitPos)
  | token
  | data (j : Nat)
  | crcHi
  | crcLo
  | response
deriving DecidableEq, Repr

/-- A position inside StopSeq (42_data_transfer.md R98). -/
inductive StopPos where
  | ready (w : WaitPos)
  | token
  | stuff
deriving DecidableEq, Repr

/-- `phase` (10_state.md R25, R26): IDLE, DECODE, or the next atomic action of the pseudocode of the operation in
OP, with the loop iteration `k` (blocks done) and the pseudocode's local variables it needs. -/
inductive Phase where
  | idle
  | decode
  /-- The next action is `Finish(err, cls)` (60_exceptions.md R109). -/
  | finish (err : ErrCode) (cls : CompletionClass)
  /-- The register update of a CRC operation (40_crc.md R71 to R73). -/
  | update
  /-- The `cs` change of SELECT and DESELECT (43_bus_control.md R105, R106). -/
  | chipSelect
  /-- The CmdCore call of SEND_CMD (41_command.md R85). -/
  | command (p : CmdPos)
  /-- `R[XFER] <- 0`, the internal step that starts a data operation (42_data_transfer.md R95, R96, R99). -/
  | clearXfer
  /-- RecvPacket of block `k` (R93, R95, R96). -/
  | recv (k : Nat) (p : RecvPos)
  /-- The internal step `S.RETRYABLE <- retryable` after a failed packet (R94, R96). -/
  | recvFailed (f : Failure)
  /-- The automatic CMD12 of RECEIVE (R94). -/
  | autoStop (f : Failure) (p : CmdPos)
  /-- Block `k` of TransmitBody (R99). -/
  | send (k : Nat) (p : SendPos)
  /-- StopSeq (R98), after a rejection `some f` or after the last block `none`. -/
  | stop (f : Option Failure) (p : StopPos)
  /-- The internal step `err <- ON_DRIVE; S.RETRYABLE <- 0` after a rejection whose StopSeq timed out (R99). -/
  | stopFailed (f : Failure)
  /-- The internal step `S.NEEDS_CHECK <- 1` that ends a good write (R99). -/
  | needsCheck
  /-- WAIT_READY's wait (43_bus_control.md R104). -/
  | waitReady (w : WaitPos)
  /-- RESYNC's sequence (43_bus_control.md R107). -/
  | resync (p : ResyncPos)
  /-- Idle byte `i` of IDLE (43_bus_control.md R108). -/
  | idleByte (i : Nat)
deriving DecidableEq, Repr

/-- The events of the wire trace: `X(cs, tx, rx)` (20_memory.md R39) and `C(v)` (R40). -/
inductive WireEvent where
  | xchg (cs : Bool) (tx rx : Byte)
  | cs (v : Bool)
deriving DecidableEq, Repr

/-- The width of a host access to the register window (20_memory.md R32). -/
inductive AccessSize where
  | byte
  | half
  | word
deriving DecidableEq, Repr

/-- What the host does in one of its steps (00_scope.md R4): a register access by window offset (10_state.md R22,
R23) or by bus address (20_memory.md R44), or an access to host memory by its own means (R31). -/
inductive HostAction where
  | regRead (size : AccessSize) (offset : Word)
  | regWrite (size : AccessSize) (offset value : Word)
  | busRead (size : AccessSize) (address : Word)
  | busWrite (size : AccessSize) (address value : Word)
  | memRead (address : Word)
  | memWrite (address : Word) (value : Byte)
deriving DecidableEq, Repr

/-- Which agent moves (00_scope.md R4), or the platform's reset input (70_reset_and_hazards.md R120). -/
inductive Turn where
  | engine
  /-- The Engine begins the first exchange of a wait, latching `t0`: the ticks listed before its `engine` turn come while
  that byte is on the wire (10_state.md R28, 70_reset_and_hazards.md R131; assumption log 20). -/
  | exchangeStarts
  | tick
  | host (a : HostAction)
  | reset
deriving DecidableEq, Repr

/-- A range of host-memory addresses, `base` to `base + size - 1`. -/
structure AddrRange where
  base : Word
  size : Nat
deriving DecidableEq, Repr

/-- Host memory: (address, byte) pairs, the addresses strictly rising and below 2^32, no pair equal to what an
unlisted address reads as (`Memory.wf` in Machine/Ops.lean). -/
abbrev Memory := List Host.Cell

/-- The state of the machine. -/
structure State where
  /-- CTRL (10_state.md R11). -/
  ctrl : Ctrl
  /-- STATUS (10_state.md R12). -/
  status : Status
  /-- OP (10_state.md R13). -/
  op : Word
  /-- ARG (10_state.md R14). -/
  arg : Word
  /-- ADDR (10_state.md R15). -/
  addr : Word
  /-- COUNT[15:0] (10_state.md R16). -/
  count : BitVec 16
  /-- XFER[15:0] (10_state.md R17). -/
  xfer : BitVec 16
  /-- RESP[7:0] (10_state.md R18). -/
  resp : Byte
  /-- RESPX (10_state.md R18). -/
  respx : Word
  /-- DTOKEN[7:0] (10_state.md R19). -/
  dtoken : Byte
  /-- CRC7[6:0] (10_state.md R20). -/
  crc7 : BitVec 7
  /-- CRC16[15:0] (10_state.md R20). -/
  crc16 : BitVec 16
  /-- CRC16_RX[15:0] (10_state.md R20). -/
  crc16Rx : BitVec 16
  /-- TOUT_READ (10_state.md R21). -/
  toutRead : Word
  /-- TOUT_BUSY (10_state.md R21). -/
  toutBusy : Word
  /-- `phase` (10_state.md R25). -/
  phase : Phase
  /-- `cs`, true when the card is selected (10_state.md R25). -/
  cs : Bool
  /-- `ticks` (10_state.md R25, R27). -/
  ticks : Word
  /-- `t0` (10_state.md R25, R28). -/
  t0 : Word
  /-- `attempt` (10_state.md R25, 41_command.md R84). -/
  attempt : BitVec 4
  /-- Host memory (20_memory.md R31). -/
  mem : Memory
  /-- The wire trace, NEWEST EVENT FIRST (20_memory.md R39, R40; assumption log 10). -/
  wire : List WireEvent
  /-- The platform's parameter `Backed`, as the ranges where it is false (20_memory.md R36; assumption log 5). -/
  holes : List AddrRange
  /-- The card's coming answers, the next one first; the MODEL's own field (assumption log 4). -/
  card : List Byte
  /-- How many exchanges the card has answered; the MODEL's own field, it numbers the free answers (log 4). -/
  draws : Nat
  /-- The coming turns of the agents, the next one first; the MODEL's own field (assumption log 2). -/
  sched : List Turn
  /-- What the host's last read returned; the MODEL's own field (10_state.md R22; assumption log 9). -/
  readData : Word
deriving DecidableEq, Repr

/-- Why the engine has no step. -/
inductive Fault where
  /-- Raised by the data-byte step of RECEIVE, RECV_SHORT and TRANSMIT* when `Backed` is false for the address:
  "has no step: the engine is stuck at that point" (20_memory.md R36). SAFE: nothing is provable of what a
  platform does beyond it. `step` keeps the stuck engine in place so that the other agents go on. -/
  | unbackedAccess
deriving DecidableEq, Repr

/-- Why a step has no meaning. -/
inductive Refusal where
  /-- Raised by an arm of `exec` whose operation has no meaning yet; no arm is one now. SAFE. -/
  | notModelled (mnemonic : String)
  /-- Raised by a host register access that is not a 32-bit access at a multiple of 4 in 0x00..0x3C: "not defined
  by this spec; a model refuses it (no meaning)" (20_memory.md R32). SAFE. -/
  | undefinedRegisterAccess
  /-- Raised by the Engine's turn in a state whose `phase` is no position of the pseudocode of the operation in
  OP, which no run reaches (10_state.md R25; assumption log 15). SAFE. -/
  | phaseOutsideOperation
deriving DecidableEq, Repr

/-- The state right after reset (70_reset_and_hazards.md R121). Host memory, `holes`, `card`, `draws`, `sched` and
`readData` are not state of the engine: their values here are DESIGN CHOICES (assumption logs 2, 4, 5, 7, 9). -/
def State.reset : State where
  ctrl := { ie := false, cmdRetry := Config.cmdRetryReset }
  status :=
    { busy := false, done := false, rej := false, err := .noError, cls := .ok, retryable := false,
      needsCheck := false, stopped := false, derr := 0#4, attempts := 0#4 }
  op := 0#32
  arg := 0#32
  addr := 0#32
  count := 0#16
  xfer := 0#16
  resp := 0#8
  respx := 0#32
  dtoken := 0#8
  crc7 := 0#7
  crc16 := 0#16
  crc16Rx := 0#16
  toutRead := Config.toutReadReset
  toutBusy := Config.toutBusyReset
  phase := .idle
  cs := false
  ticks := 0#32
  t0 := 0#32
  attempt := 0#4
  mem := []
  wire := []
  holes := []
  card := []
  draws := 0
  sched := []
  readData := 0#32

end Sys2Proof.Machine
end

