-- ==== Sys2Proof/Machine/Flags.lean ====
section
/-! DEFINITION. Every classification and flag computation: the codes of STATUS.ERR and STATUS.CLASS, the R1
classes, the read tokens, the data response, and the words CTRL and STATUS read as. -/

namespace Sys2Proof.Machine

/-- The 4-bit code of an error (60_exceptions.md R112). -/
def ErrCode.code : ErrCode → BitVec 4
  | .noError => 0#4
  | .onDrive => 1#4
  | .read => 2#4
  | .write => 3#4
  | .writeProtect => 4#4
  | .invalidSector => 5#4
  | .cardRemoved => 6#4
  | .invalidMedia => 7#4
  | .illegalOp => 8#4

/-- The 3-bit code of a class (60_exceptions.md R113). -/
def CompletionClass.code : CompletionClass → BitVec 3
  | .ok => 0#3
  | .nack => 1#3
  | .crc => 2#3
  | .timeout => 3#3
  | .error => 4#3
  | .token => 5#3
  | .illegal => 6#3

/-- A polled byte is a valid R1 when its bit 7 is 0 (41_command.md R76, 30_encoding.md R56). -/
def isR1 (rx : Byte) : Bool := !rx.getLsbD 7

/-- The CMD12 mask: bits 2 and 6 cleared for index 12, no other index masked (41_command.md R77). -/
def maskR1 (idx : BitVec 6) (r1 : Byte) : Byte := if idx = 12#6 then r1 &&& 0xBB#8 else r1

/-- `classify(r)` (41_command.md R78), the first condition that applies wins. -/
def classifyR1 (r : Byte) : CompletionClass :=
  if r.getLsbD 3 then .crc
  else if r.getLsbD 2 || r.getLsbD 4 then .error
  else if r.getLsbD 5 || r.getLsbD 6 then .nack
  else .ok

/-- What a byte that ended a start-token wait is (42_data_transfer.md R92). -/
inductive TokenKind where
  | startBlock
  | dataError
  | unexpected
deriving DecidableEq, Repr

/-- The classification of R92, in its order: 0xFE, high nibble 0, any other byte. -/
def tokenKind (tok : Byte) : TokenKind :=
  if tok = 0xFE#8 then .startBlock
  else if tok.extractLsb' 4 4 = 0#4 then .dataError
  else .unexpected

/-- The failure of a start-token wait that timed out (42_data_transfer.md R92). -/
def tokenTimeout : Failure := ⟨.read, .timeout, true⟩

/-- The failure of a data-error token: INVALID_SECTOR if bit 2 or bit 3 is set, else READ (R92). -/
def dataErrorFailure (tok : Byte) : Failure :=
  ⟨if tok.getLsbD 2 || tok.getLsbD 3 then .invalidSector else .read, .error, false⟩

/-- The failure of an unexpected token (42_data_transfer.md R92). -/
def tokenFailure : Failure := ⟨.read, .token, true⟩

/-- The failure of a packet whose CRC16 does not match (42_data_transfer.md R93). -/
def crcFailure : Failure := ⟨.read, .crc, true⟩

/-- The outcome of a data response (42_data_transfer.md R97): accepted is `none`, bits [7:5] are ignored. -/
def dataResponse (dr : Byte) : Option Failure :=
  if dr &&& 0x1F#8 = 0x05#8 then none
  else if dr &&& 0x1F#8 = 0x0B#8 then some ⟨.write, .crc, true⟩
  else if dr &&& 0x1F#8 = 0x0D#8 then some ⟨.write, .error, false⟩
  else some ⟨.write, .token, true⟩

/-- CTRL as the host reads it (10_state.md R11): CMD_RETRY in [7:4], IE in bit 0, reserved bits 0. -/
def Ctrl.word (c : Ctrl) : Word := 0#24 ++ c.cmdRetry ++ 0#3 ++ BitVec.ofBool c.ie

/-- The fields a written CTRL word gives, its reserved bits ignored (10_state.md R11, R23). -/
def ctrlOfWord (w : Word) : Ctrl := { ie := w.getLsbD 0, cmdRetry := w.extractLsb' 4 4 }

/-- STATUS as the host reads it (10_state.md R12), with CS from `cs` and the reserved bits 0. -/
def statusWord (st : Status) (cs : Bool) : Word :=
  0#8 ++ st.attempts ++ st.derr ++ 0#2 ++ BitVec.ofBool st.stopped ++ BitVec.ofBool st.needsCheck ++
    BitVec.ofBool st.retryable ++ st.cls.code ++ st.err.code ++ BitVec.ofBool cs ++ BitVec.ofBool st.rej ++
    BitVec.ofBool st.done ++ BitVec.ofBool st.busy

/-- The interrupt output, `IRQ = S.DONE & CTRL.IE`, a level (60_exceptions.md R117). -/
def State.irq (s : State) : Bool := s.status.done && s.ctrl.ie

/-- The record fields cleared and BUSY set when an operation word is accepted (10_state.md R24); REJ is kept. -/
def Status.accepted (st : Status) : Status :=
  { busy := true, done := false, rej := st.rej, err := .noError, cls := .ok, retryable := false,
    needsCheck := false, stopped := false, derr := 0#4, attempts := 0#4 }

/-- STATUS after `Finish(err, cls)` (60_exceptions.md R109). -/
def Status.finished (st : Status) (err : ErrCode) (cls : CompletionClass) : Status :=
  { st with err := err, cls := cls, busy := false, done := true }

/-- STATUS after a host write of `w` to it: write-1-to-clear on DONE and REJ (10_state.md R23). -/
def Status.writeOneToClear (st : Status) (w : Word) : Status :=
  { st with done := st.done && !w.getLsbD 1, rej := st.rej && !w.getLsbD 2 }

end Sys2Proof.Machine
end

