-- ==== Sys2Proof/Machine/Operands.lean ====
section
/-! DEFINITION. Operand forms: the bytes of a command frame (30_encoding.md R55), the host-memory address of a data
byte (42_data_transfer.md R93, R99), the start token of a write, the tail of a response (41_command.md R79), and
the two predicates of the engine's waits. -/

namespace Sys2Proof.Machine

/-- Byte `k` of a command frame, 0..4 (30_encoding.md R55): start and transmission bits with the index, then the
argument most significant byte first. -/
def frameByte (idx : BitVec 6) (arg : Word) : Nat → Byte
  | 0 => 0x40#8 ||| idx.setWidth 8
  | 1 => arg.extractLsb' 24 8
  | 2 => arg.extractLsb' 16 8
  | 3 => arg.extractLsb' 8 8
  | _ => arg.extractLsb' 0 8

/-- Byte 5 of a command frame: the CRC7 shifted left, with the end bit (30_encoding.md R55, 40_crc.md R65). -/
def frameLastByte (crc7 : BitVec 7) : Byte := (crc7.setWidth 8 <<< 1) ||| 1#8

/-- How many tail bytes a response kind adds after R1 (41_command.md R79): R2 one, R3 and R7 four. -/
def tailBytes : RKind → Nat
  | .noResp => 0
  | .r1 => 0
  | .r1b => 0
  | .r2 => 1
  | .r3 => 4
  | .r7 => 4

/-- RESPX after one more tail byte (41_command.md R79, R84): `zext_32(b)` for R2, shifted in for R3 and R7. -/
def respxAfter (kind : RKind) (respx : Word) (b : Byte) : Word :=
  match kind with
  | .r2 => b.setWidth 32
  | .noResp => respx
  | .r1 => respx
  | .r1b => respx
  | .r3 => (respx <<< 8) ||| b.setWidth 32
  | .r7 => (respx <<< 8) ||| b.setWidth 32

/-- The host-memory address of byte `j` of the block at ADDR: `(ADDR + j) mod 2^32` (20_memory.md R34, R35, R37). -/
def dataAddr (s : State) (j : Nat) : Word := s.addr + BitVec.ofNat 32 j

/-- The start token of a written block: 0xFC if MULTI, else 0xFE (42_data_transfer.md R99, 30_encoding.md R58). -/
def startToken (multi : Bool) : Byte := if multi then 0xFC#8 else 0xFE#8

/-- The start token of a block read, 0xFE (30_encoding.md R58). -/
abbrev startBlock : Byte := 0xFE#8

/-- The Stop Tran token, 0xFD (30_encoding.md R58). -/
abbrev stopTran : Byte := 0xFD#8

/-- The predicate of every busy wait: `rx == 0xFF` (90_conflicts.md C10). -/
def cardReady (rx : Byte) : Bool := rx == 0xFF#8

/-- The predicate of the start-token wait: `rx != 0xFF` (42_data_transfer.md R92). -/
def tokenSeen (rx : Byte) : Bool := rx != 0xFF#8

end Sys2Proof.Machine
end

