-- ==== Sys2Proof/Machine/Ops.lean ====
section
/-! DEFINITION. The named operations every meaning is made of: host memory and the data port, the byte exchange and
the chip-select change, the wait, completion (`Finish`, the engine's only "trap entry", 60_exceptions.md R110) and
the host's return from it (R111), acceptance of a word, ticks and reset. -/

namespace Sys2Proof.Machine

/-- What one Engine step of an operation answers. -/
abbrev StepResult := Host.Outcome State Fault Refusal

/-- What a byte of host memory that nothing has written reads as (DESIGN CHOICE, assumption log 7: no rule gives
the power-up content of host memory). -/
abbrev memDefault : Byte := 0#8

/-- The byte at address `a`. -/
def Memory.read : Memory → Nat → Byte
  | [], _ => memDefault
  | (k, v) :: rest, a => if k = a then v else Memory.read rest a

/-- The memory with `v` at address `a`, in canonical form: a byte that equals `memDefault` is not listed. -/
def Memory.write : Memory → Nat → Byte → Memory
  | [], a, v => if v = memDefault then [] else [(a, v)]
  | (k, u) :: rest, a, v =>
    if a < k then (if v = memDefault then (k, u) :: rest else (a, v) :: (k, u) :: rest)
    else if a = k then (if v = memDefault then rest else (a, v) :: rest)
    else (k, u) :: Memory.write rest a v

/-- The canonical form: addresses strictly rising and below 2^32, no listed byte equal to `memDefault`. -/
def Memory.wf : Memory → Bool
  | [] => true
  | (k, v) :: rest =>
    decide (k < 2 ^ 32) && !decide (v = memDefault) && rest.all (fun c => decide (k < c.1)) && Memory.wf rest

/-- The byte of host memory at a 32-bit address (20_memory.md R34). -/
def State.byteAt (s : State) (a : Word) : Byte := s.mem.read a.toNat

/-- Host memory with `v` at a 32-bit address (20_memory.md R35). -/
def State.storeByte (a : Word) (v : Byte) (s : State) : State := { s with mem := s.mem.write a.toNat v }

/-- `Backed(a)` (20_memory.md R36). -/
def State.backed (s : State) (a : Word) : Bool :=
  !s.holes.any (fun h => decide (h.base.toNat ≤ a.toNat) && decide (a.toNat < h.base.toNat + h.size))

/-- The byte the card answers to the next exchange (00_scope.md R4): scripted, or the free value `Config.cardByte`
of this exchange's number. -/
def State.answer (s : State) : Byte :=
  match s.card with
  | b :: _ => b
  | [] => Config.cardByte s.draws

/-- `Xchg(tx)` (20_memory.md R39): the event `X(cs, tx, rx)` goes on the wire trace; `rx` is `State.answer`, taken
from the state before. It happens whatever `cs` is. -/
def State.exchange (tx : Byte) (s : State) : State :=
  { s with card := s.card.tail, draws := s.draws + 1, wire := .xchg s.cs tx s.answer :: s.wire }

/-- `cs <- v` (20_memory.md R40): the event `C(v)` is recorded even when v equals the old value. -/
def State.driveCs (v : Bool) (s : State) : State := { s with cs := v, wire := .cs v :: s.wire }

/-- The position of the next atomic action (10_state.md R26). -/
def State.setPhase (p : Phase) (s : State) : State := { s with phase := p }

/-- `S.RETRYABLE <- v` (42_data_transfer.md R94, R96, R99). -/
def State.setRetryable (v : Bool) (s : State) : State :=
  { s with status := { s.status with retryable := v } }

/-- `S.NEEDS_CHECK <- 1` (42_data_transfer.md R99). -/
def State.setNeedsCheck (s : State) : State := { s with status := { s.status with needsCheck := true } }

/-- `S.STOPPED <- 1` (42_data_transfer.md R94, R98). -/
def State.setStopped (s : State) : State := { s with status := { s.status with stopped := true } }

/-- `S.DERR <- v` (42_data_transfer.md R92). -/
def State.setDerr (v : BitVec 4) (s : State) : State := { s with status := { s.status with derr := v } }

/-- The start of a wait: `t0 <- ticks`, in the same step as its first exchange (10_state.md R28), unless
`State.startExchange` has latched it. -/
def State.latch (w : WaitPos) (s : State) : State :=
  match w with
  | .first => { s with t0 := s.ticks }
  | .again => s

/-- The position of a wait whose first exchange has begun; any other position is its own (10_state.md R28). -/
def Phase.started : Phase → Phase
  | .command (.busy .first cls) => .command (.busy .again cls)
  | .autoStop f (.busy .first cls) => .autoStop f (.busy .again cls)
  | .recv k (.token .first) => .recv k (.token .again)
  | .send k (.ready .first) => .send k (.ready .again)
  | .stop f (.ready .first) => .stop f (.ready .again)
  | .waitReady .first => .waitReady .again
  | p => p

/-- The first exchange of a wait begins: `t0 <- ticks`, and nothing on the wire yet, so that ticks may come before its
end and the wait may time out after a single exchange whatever its limit is (70_reset_and_hazards.md R131; assumption
log 20). Nothing at any other position. -/
def State.startExchange (s : State) : State :=
  if s.phase.started = s.phase then s else { s with t0 := s.ticks, phase := s.phase.started }

/-- How one exchange of a wait leaves it (10_state.md R28). -/
inductive WaitResult where
  | ok
  | timeout
  | again
deriving DecidableEq, Repr

/-- The two tests of `WaitUntil` (10_state.md R28) after an exchange that received `s.answer`, in a state whose `t0`
is latched: the predicate first, then `((ticks - t0) mod 2^32) >= limit`. -/
def waitResult (good : Byte → Bool) (limit : Word) (s : State) : WaitResult :=
  if good s.answer then .ok
  else if limit.toNat ≤ (s.ticks - s.t0).toNat then .timeout
  else .again

/-- TAKING THE COMPLETION: `Finish(err, cls)` (60_exceptions.md R109, R110). No other register, no other STATUS
field and not `cs`. -/
def State.finish (err : ErrCode) (cls : CompletionClass) (s : State) : State :=
  { s with status := s.status.finished err cls, phase := .idle }

/-- THE RETURN FROM A COMPLETION: a host write of `w` to STATUS, which clears DONE where bit 1 is 1 and REJ where bit
2 is 1 and nothing else (60_exceptions.md R111, 10_state.md R23). Allowed while BUSY. -/
def State.writeStatus (w : Word) (s : State) : State := { s with status := s.status.writeOneToClear w }

/-- Accepting an operation word (10_state.md R24). -/
def State.accept (w : Word) (s : State) : State :=
  { s with op := w, status := s.status.accepted, phase := .decode }

/-- The rest of the decode step (30_encoding.md R52): a legal word goes to the first action of its rule, an illegal
one finishes ILLEGAL_OP/ILLEGAL in the same step. -/
def State.decodeTo (legal : Bool) (first : Phase) (s : State) : State :=
  if legal then s.setPhase first else s.finish .illegalOp .illegal

/-- A step of the timebase (10_state.md R27). -/
def State.tick (s : State) : State := { s with ticks := s.ticks + 1#32 }

/-- The platform's reset (70_reset_and_hazards.md R120): every register and the internal state to its reset value,
the wire trace afresh; host memory, the platform and the other agents are not the engine's (assumption log 16). -/
def State.hardReset (s : State) : State :=
  { State.reset with
    mem := s.mem, holes := s.holes, card := s.card, draws := s.draws, sched := s.sched, readData := s.readData }

/-- The three actions of `Resync()` (41_command.md R81), each one Engine step: the state after the action at `p`,
and the next action if there is one. -/
def resyncStep (p : ResyncPos) (s : State) : State × Option ResyncPos :=
  match p with
  | .low => (s.driveCs false, some .clock)
  | .clock => (s.exchange Config.idleByte, some .high)
  | .high => (s.driveCs true, none)

/-- What every operation shares (00_scope.md R5): nothing while idle (20_memory.md R41), the decode step
(30_encoding.md R52), and `Finish` as a step of its own (60_exceptions.md R109). `body` is the operation's own
pseudocode at its own positions. -/
def runPhase (legal : Bool) (first : Phase) (body : State → StepResult) (s : State) : StepResult :=
  match s.phase with
  | .idle => .next s
  | .decode => .next (s.decodeTo legal first)
  | .finish err cls => .next (s.finish err cls)
  | _ => body s

end Sys2Proof.Machine
end

