-- ==== Sys2Proof/Machine/CrcOps.lean ====
section
/-! DEFINITION. The CRC operations (40_crc.md R71 to R73): decode, update, `Finish`. -/

namespace Sys2Proof.Machine

/-- The completion every operation without a failure path ends in: `Finish(NO_ERROR, OK)` comes next. -/
abbrev finishOk : Phase := .finish .noError .ok

/-- A CRC operation (40_crc.md, section 4): its one register update, then `Finish(NO_ERROR, OK)`. -/
def crcOp (update : State → State) (s : State) : StepResult :=
  runPhase true .update
    (fun s =>
      match s.phase with
      | .update => .next ((update s).setPhase finishOk)
      | _ => .refused .phaseOutsideOperation)
    s

/-- CRC_CLEAR (40_crc.md R71). -/
def execCrcClear (c7 c16 : Bool) (s : State) : StepResult :=
  crcOp
    (fun s => { s with crc7 := if c7 then 0#7 else s.crc7, crc16 := if c16 then 0#16 else s.crc16 })
    s

/-- CRC7_FEED (40_crc.md R72). -/
def execCrc7Feed (byte : Byte) (s : State) : StepResult :=
  crcOp (fun s => { s with crc7 := crc7Update s.crc7 byte }) s

/-- CRC16_FEED (40_crc.md R73). -/
def execCrc16Feed (byte : Byte) (s : State) : StepResult :=
  crcOp (fun s => { s with crc16 := crc16Update s.crc16 byte }) s

end Sys2Proof.Machine
end

