-- ==== Sys2Proof/Machine/BusControl.lean ====
section
/-! DEFINITION. The bus-control operations (43_bus_control.md R104 to R108). -/

namespace Sys2Proof.Machine

/-- One exchange of WAIT_READY's wait (43_bus_control.md R104). -/
def waitReadyStep (w : WaitPos) (s : State) : State :=
  let s := s.latch w
  match waitResult cardReady s.toutBusy s with
  | .ok => (s.exchange Config.idleByte).setPhase finishOk
  | .timeout => (s.exchange Config.idleByte).setPhase (.finish .onDrive .timeout)
  | .again => (s.exchange Config.idleByte).setPhase (.waitReady .again)

/-- WAIT_READY (43_bus_control.md R104). -/
def execWaitReady (s : State) : StepResult :=
  runPhase true (.waitReady .first)
    (fun s =>
      match s.phase with
      | .waitReady w => .next (waitReadyStep w s)
      | _ => .refused .phaseOutsideOperation)
    s

/-- The body of SELECT and DESELECT: `cs <- v`, then `Finish` (43_bus_control.md R105, R106). -/
def chipSelectOp (v : Bool) (s : State) : StepResult :=
  runPhase true .chipSelect
    (fun s =>
      match s.phase with
      | .chipSelect => .next ((s.driveCs v).setPhase finishOk)
      | _ => .refused .phaseOutsideOperation)
    s

/-- SELECT (43_bus_control.md R105). -/
def execSelect (s : State) : StepResult := chipSelectOp true s

/-- DESELECT (43_bus_control.md R106). -/
def execDeselect (s : State) : StepResult := chipSelectOp false s

/-- After an action of RESYNC (43_bus_control.md R107). -/
def resyncNext : State × Option ResyncPos → State
  | (s, some p) => s.setPhase (.resync p)
  | (s, none) => s.setPhase finishOk

/-- RESYNC (43_bus_control.md R107). -/
def execResync (s : State) : StepResult :=
  runPhase true (.resync .low)
    (fun s =>
      match s.phase with
      | .resync p => .next (resyncNext (resyncStep p s))
      | _ => .refused .phaseOutsideOperation)
    s

/-- IDLE (43_bus_control.md R108). -/
def execIdle (n : BitVec 11) (s : State) : StepResult :=
  runPhase (Instr.wf (.idle n)) (.idleByte 0)
    (fun s =>
      match s.phase with
      | .idleByte i =>
        .next ((s.exchange Config.idleByte).setPhase (if i + 1 < n.toNat then .idleByte (i + 1) else finishOk))
      | _ => .refused .phaseOutsideOperation)
    s

end Sys2Proof.Machine
end

