-- ==== Sys2Proof/Machine/Command.lean ====
section
/-! DEFINITION. The command frame serializer and response collector: CmdCore (41_command.md R74 to R84), one atomic
action a step, and the six SEND_CMD operations (R85 to R91). Which step carries the register updates that the
pseudocode does not mark is assumption log 1. -/

namespace Sys2Proof.Machine

/-- Where CmdCore goes after an action: on, or back to its caller with a class (41_command.md R84). -/
inductive CmdNext where
  | goOn (p : CmdPos)
  | done (cls : CompletionClass)
deriving DecidableEq, Repr

/-- The end of an attempt (41_command.md R82): a retryable one with retries left counts the retry and resyncs, any
other returns its class. -/
def attemptEnd (cls : CompletionClass) (retryable : Bool) (s : State) : State × CmdNext :=
  if retryable && decide (s.attempt.toNat < s.ctrl.cmdRetry.toNat) then
    ({ s with
        attempt := s.attempt + 1#4
        status := { s.status with attempts := s.attempt + 1#4 } },
      .goOn (.resync .low))
  else (s, .done cls)

/-- Frame byte `k` of 0..4 (41_command.md R74): the CRC7 takes it in, from 0 at the first byte, and it is sent. -/
def sendFrameByte (idx : BitVec 6) (arg : Word) (k : Nat) (s : State) : State :=
  { s.exchange (frameByte idx arg k) with
    crc7 := crc7Update (if k = 0 then 0#7 else s.crc7) (frameByte idx arg k) }

/-- The last frame byte (41_command.md R74) and what follows it in R84: NONE returns OK at once, any other kind
clears RESPX and goes on to the stuff byte of CMD12 (R75) or to the poll (R76). -/
def sendFrameEnd (idx : BitVec 6) (kind : RKind) (s : State) : State × CmdNext :=
  if kind = .noResp then (s.exchange (frameLastByte s.crc7), .done .ok)
  else
    ({ s.exchange (frameLastByte s.crc7) with respx := 0#32 },
      .goOn (if idx = 12#6 then .stuff else .poll 0))

/-- After the frame byte `k` of 0..5 (41_command.md R74). -/
def frameStep (idx : BitVec 6) (arg : Word) (kind : RKind) (k : Nat) (s : State) : State × CmdNext :=
  if k < 5 then (sendFrameByte idx arg k s, .goOn (.frame (k + 1))) else sendFrameEnd idx kind s

/-- A valid R1 (41_command.md R77 to R80): masked, stored, classified, then the tail the kind adds. -/
def r1Found (idx : BitVec 6) (kind : RKind) (rx : Byte) (s : State) : State × CmdNext :=
  let r1 := maskR1 idx rx
  let cls := classifyR1 r1
  let s := { s with resp := r1 }
  match kind with
  | .r1b => (s, .goOn (.busy .first cls))
  | .r2 => (s, .goOn (.tail 0 cls))
  | .r3 => (s, .goOn (.tail 0 cls))
  | .r7 => (s, .goOn (.tail 0 cls))
  | .r1 => attemptEnd cls (cls == .crc) s
  | .noResp => attemptEnd cls (cls == .crc) s

/-- Poll byte `k` of 0..7 (41_command.md R76): the first with bit 7 clear is R1; after the last without one the
attempt has found no R1, keeps that byte in RESP (R79) and is retryable (R82). -/
def pollStep (idx : BitVec 6) (kind : RKind) (k : Nat) (s : State) : State × CmdNext :=
  let rx := s.answer
  let s := s.exchange Config.idleByte
  if isR1 rx then r1Found idx kind rx s
  else if k + 1 < Config.ncrMax then (s, .goOn (.poll (k + 1)))
  else attemptEnd .timeout true { s with resp := rx }

/-- Tail byte `k` of kinds R2, R3 and R7 (41_command.md R79). -/
def tailStep (kind : RKind) (k : Nat) (cls : CompletionClass) (s : State) : State × CmdNext :=
  let rx := s.answer
  let s := { s.exchange Config.idleByte with respx := respxAfter kind s.respx rx }
  if k + 1 < tailBytes kind then (s, .goOn (.tail (k + 1) cls)) else attemptEnd cls (cls == .crc) s

/-- The busy wait of kind R1B (41_command.md R80): a timeout makes the class TIMEOUT and is not retryable. -/
def busyStep (w : WaitPos) (cls : CompletionClass) (s : State) : State × CmdNext :=
  let s := s.latch w
  match waitResult cardReady s.toutBusy s with
  | .ok => attemptEnd cls (cls == .crc) (s.exchange Config.idleByte)
  | .timeout => attemptEnd .timeout false (s.exchange Config.idleByte)
  | .again => (s.exchange Config.idleByte, .goOn (.busy .again cls))

/-- One action of CmdCore(idx, arg, kind) at position `p` (41_command.md R84). -/
def cmdStep (idx : BitVec 6) (arg : Word) (kind : RKind) (p : CmdPos) (s : State) : State × CmdNext :=
  match p with
  | .start =>
    frameStep idx arg kind 0 { s with attempt := 0#4, status := { s.status with attempts := 0#4 } }
  | .frame k => frameStep idx arg kind k s
  | .stuff => (s.exchange Config.idleByte, .goOn (.poll 0))
  | .poll k => pollStep idx kind k s
  | .tail k cls => tailStep kind k cls s
  | .busy w cls => busyStep w cls s
  | .resync q =>
    match resyncStep q s with
    | (s, some q) => (s, .goOn (.resync q))
    | (s, none) => (s, .goOn (.frame 0))

/-- The completion of SEND_CMD_body: every class but OK ends as ON_DRIVE (41_command.md R85). -/
def sendCmdFinish (cls : CompletionClass) : Phase :=
  if cls = .ok then finishOk else .finish .onDrive cls

/-- After an action of the CmdCore call of SEND_CMD (41_command.md R85). -/
def sendCmdNext : State × CmdNext → State
  | (s, .goOn p) => s.setPhase (.command p)
  | (s, .done cls) => s.setPhase (sendCmdFinish cls)

/-- `SEND_CMD_body(kind)` (41_command.md R85): CmdCore(IDX, R[ARG], kind), then `Finish`. -/
def sendCmdBody (kind : RKind) (idx : BitVec 6) (s : State) : StepResult :=
  runPhase true (.command .start)
    (fun s =>
      match s.phase with
      | .command p => .next (sendCmdNext (cmdStep idx s.arg kind p s))
      | _ => .refused .phaseOutsideOperation)
    s

/-- SEND_CMD.NONE (41_command.md R86). -/
def execSendCmdNone (idx : BitVec 6) (s : State) : StepResult := sendCmdBody .noResp idx s

/-- SEND_CMD.R1 (41_command.md R87). -/
def execSendCmdR1 (idx : BitVec 6) (s : State) : StepResult := sendCmdBody .r1 idx s

/-- SEND_CMD.R1B (41_command.md R88). -/
def execSendCmdR1B (idx : BitVec 6) (s : State) : StepResult := sendCmdBody .r1b idx s

/-- SEND_CMD.R2 (41_command.md R89). -/
def execSendCmdR2 (idx : BitVec 6) (s : State) : StepResult := sendCmdBody .r2 idx s

/-- SEND_CMD.R3 (41_command.md R90). -/
def execSendCmdR3 (idx : BitVec 6) (s : State) : StepResult := sendCmdBody .r3 idx s

/-- SEND_CMD.R7 (41_command.md R91). -/
def execSendCmdR7 (idx : BitVec 6) (s : State) : StepResult := sendCmdBody .r7 idx s

end Sys2Proof.Machine
end

