-- ==== Sys2Proof/Machine/DataTransfer.lean ====
section
/-! DEFINITION. The data-block token recognizer and the block-transfer state machine (42_data_transfer.md R92 to
R102), one atomic action a step: RecvPacket, AutoStop, StopSeq and TransmitBody, and the five data operations. -/

namespace Sys2Proof.Machine

/-- The internal step that starts every data operation, `R[XFER] <- 0` (R95, R96, R99). -/
def startData (next : Phase) (s : State) : State := { s with xfer := 0#16, phase := next }

/-- Where RecvPacket goes after an action (42_data_transfer.md R93). -/
inductive RecvNext where
  | goOn (p : RecvPos)
  | good
  | failed (f : Failure)
deriving DecidableEq, Repr

/-- The exchange that ends a start-token wait stores its byte in DTOKEN (42_data_transfer.md R92). -/
def takeToken (s : State) : State := { s.exchange Config.idleByte with dtoken := s.answer }

/-- The position of data byte `j` of a packet of `n`, or of the CRC after the last (42_data_transfer.md R93). -/
def dataFrom (n j : Nat) : RecvPos := if j < n then .data j else .crcHi

/-- One exchange of the start-token wait (42_data_transfer.md R92, R93). -/
def recvToken (n : Nat) (w : WaitPos) (s : State) : State × RecvNext :=
  let s := s.latch w
  match waitResult tokenSeen s.toutRead s with
  | .again => (s.exchange Config.idleByte, .goOn (.token .again))
  | .timeout => (takeToken s, .failed tokenTimeout)
  | .ok =>
    match tokenKind s.answer with
    | .startBlock => ({ takeToken s with crc16 := 0#16 }, .goOn (dataFrom n 0))
    | .dataError => ((takeToken s).setDerr (s.answer.extractLsb' 0 4), .failed (dataErrorFailure s.answer))
    | .unexpected => (takeToken s, .failed tokenFailure)

/-- Data byte `j` of a packet (42_data_transfer.md R93): exchanged, stored at ADDR + j, taken into the CRC16. -/
def recvData (j : Nat) (s : State) : State :=
  { (s.exchange Config.idleByte).storeByte (dataAddr s j) s.answer with crc16 := crc16Update s.crc16 s.answer }

/-- The high CRC byte (42_data_transfer.md R93). -/
def recvCrcHi (s : State) : State :=
  { s.exchange Config.idleByte with crc16Rx := s.answer.setWidth 16 <<< 8 }

/-- The low CRC byte and the check (42_data_transfer.md R93): a packet whose CRC16 matches advances ADDR by `n` and
XFER by 1 in the same step, one that does not changes neither. -/
def recvCrcLo (n : Nat) (s : State) : State × RecvNext :=
  let rx := s.crc16Rx ||| s.answer.setWidth 16
  let s' := { s.exchange Config.idleByte with crc16Rx := rx }
  if rx = s.crc16 then
    ({ s' with addr := s.addr + BitVec.ofNat 32 n, xfer := s.xfer + 1#16 }, .good)
  else (s', .failed crcFailure)

/-- One action of RecvPacket(n) at position `p` (42_data_transfer.md R93); `none` when the data byte's address is
not backed, where the engine has no step (20_memory.md R36; assumption log 6). -/
def recvStep (n : Nat) (p : RecvPos) (s : State) : Option (State × RecvNext) :=
  match p with
  | .token w => some (recvToken n w s)
  | .data j => if s.backed (dataAddr s j) then some (recvData j s, .goOn (dataFrom n (j + 1))) else none
  | .crcHi => some (recvCrcHi s, .goOn .crcLo)
  | .crcLo => some (recvCrcLo n s)

/-- The first action of block `k` of a read, or `Finish` after the last (42_data_transfer.md R95). -/
def recvBlock (count : BitVec 16) (k : Nat) : Phase :=
  if k < count.toNat then .recv k (.token .first) else finishOk

/-- After an action of RECEIVE's RecvPacket (42_data_transfer.md R95). -/
def receiveNext (k : Nat) : State × RecvNext → State
  | (s, .goOn p) => s.setPhase (.recv k p)
  | (s, .good) => s.setPhase (recvBlock s.count (k + 1))
  | (s, .failed f) => s.setPhase (.recvFailed f)

/-- After an action of the automatic CMD12 (42_data_transfer.md R94): its last action also sets STOPPED, and a stop
that did not end OK makes ERR ON_DRIVE and clears RETRYABLE; CLASS keeps the data failure's class. -/
def autoStopNext (f : Failure) : State × CmdNext → State
  | (s, .goOn p) => s.setPhase (.autoStop f p)
  | (s, .done cls) =>
    if cls = .ok then s.setStopped.setPhase (.finish f.err f.cls)
    else (s.setStopped.setRetryable false).setPhase (.finish .onDrive f.cls)

/-- One action of AutoStop's CmdCore(12, 0, R1B) (42_data_transfer.md R94): ARG is not read. -/
def autoStopStep (f : Failure) (p : CmdPos) (s : State) : State :=
  autoStopNext f (cmdStep 12#6 0#32 .r1b p s)

/-- RECEIVE (42_data_transfer.md R95). -/
def execReceive (s : State) : StepResult :=
  runPhase true .clearXfer
    (fun s =>
      match s.phase with
      | .clearXfer => .next (startData (recvBlock s.count 0) s)
      | .recv k p =>
        match recvStep Config.blockLen p s with
        | some r => .next (receiveNext k r)
        | none => .fault .unbackedAccess
      | .recvFailed f => .next ((s.setRetryable f.retryable).setPhase (.autoStop f .start))
      | .autoStop f p => .next (autoStopStep f p s)
      | _ => .refused .phaseOutsideOperation)
    s

/-- After an action of RECV_SHORT's RecvPacket (42_data_transfer.md R96). -/
def recvShortNext (k : Nat) : State × RecvNext → State
  | (s, .goOn p) => s.setPhase (.recv k p)
  | (s, .good) => s.setPhase finishOk
  | (s, .failed f) => s.setPhase (.recvFailed f)

/-- RECV_SHORT (42_data_transfer.md R96): one packet of LEN bytes and no automatic stop. COUNT is not used. -/
def execRecvShort (len : BitVec 10) (s : State) : StepResult :=
  runPhase (Instr.wf (.recvShort len)) .clearXfer
    (fun s =>
      match s.phase with
      | .clearXfer => .next (startData (.recv 0 (.token .first)) s)
      | .recv k p =>
        match recvStep len.toNat p s with
        | some r => .next (recvShortNext k r)
        | none => .fault .unbackedAccess
      | .recvFailed f => .next ((s.setRetryable f.retryable).setPhase (.finish f.err f.cls))
      | _ => .refused .phaseOutsideOperation)
    s

/-- Where StopSeq goes after an action (42_data_transfer.md R98). -/
inductive StopNext where
  | goOn (p : StopPos)
  | stopped
  | timedOut
deriving DecidableEq, Repr

/-- One action of StopSeq (42_data_transfer.md R98). -/
def stopStep (p : StopPos) (s : State) : State × StopNext :=
  match p with
  | .ready w =>
    let s := s.latch w
    match waitResult cardReady s.toutBusy s with
    | .ok => (s.exchange Config.idleByte, .goOn .token)
    | .timeout => (s.exchange Config.idleByte, .timedOut)
    | .again => (s.exchange Config.idleByte, .goOn (.ready .again))
  | .token => (s.exchange stopTran, .goOn .stuff)
  | .stuff => ((s.exchange Config.idleByte).setStopped, .stopped)

/-- After an action of StopSeq (42_data_transfer.md R99): after a rejection `some f` the operation finishes with its
failure, or as ON_DRIVE if the wait timed out; after the last block `none` it goes on to NEEDS_CHECK, or finishes
ON_DRIVE/TIMEOUT. -/
def stopNext (f : Option Failure) : State × StopNext → State
  | (s, .goOn p) => s.setPhase (.stop f p)
  | (s, .stopped) =>
    match f with
    | some f => s.setPhase (.finish f.err f.cls)
    | none => s.setPhase .needsCheck
  | (s, .timedOut) =>
    match f with
    | some f => s.setPhase (.stopFailed f)
    | none => s.setPhase (.finish .onDrive .timeout)

/-- The first action after the last block of TransmitBody (42_data_transfer.md R99). -/
def afterBlocks (multi final : Bool) (count : BitVec 16) : Phase :=
  if multi && final then .stop none (.ready .first)
  else if !multi && decide (count = 1#16) then .needsCheck
  else finishOk

/-- The first action of block `k` of a write, or what follows the last (42_data_transfer.md R99). -/
def sendBlock (multi final : Bool) (count : BitVec 16) (k : Nat) : Phase :=
  if k < count.toNat then .send k (.ready .first) else afterBlocks multi final count

/-- One exchange of the wait before a start token (42_data_transfer.md R99): a timeout ends the operation
ON_DRIVE/TIMEOUT with no stop sequence. -/
def sendReady (k : Nat) (w : WaitPos) (s : State) : State :=
  let s := s.latch w
  match waitResult cardReady s.toutBusy s with
  | .ok => (s.exchange Config.idleByte).setPhase (.send k .token)
  | .timeout => (s.exchange Config.idleByte).setPhase (.finish .onDrive .timeout)
  | .again => (s.exchange Config.idleByte).setPhase (.send k (.ready .again))

/-- Data byte `j` of a written block (42_data_transfer.md R99): read at ADDR + j, taken into the CRC16, sent. -/
def sendData (j : Nat) (s : State) : State :=
  { s.exchange (s.byteAt (dataAddr s j)) with crc16 := crc16Update s.crc16 (s.byteAt (dataAddr s j)) }

/-- The data response (42_data_transfer.md R97, R99): an accepted block advances ADDR and XFER in the same step; a
rejection sets RETRYABLE and NEEDS_CHECK, and in a multiple-block write the stop sequence follows. -/
def sendResponse (multi final : Bool) (k : Nat) (s : State) : State :=
  let s' := { s.exchange Config.idleByte with dtoken := s.answer }
  match dataResponse s.answer with
  | none =>
    { s' with
      addr := s.addr + BitVec.ofNat 32 Config.blockLen
      xfer := s.xfer + 1#16
      phase := sendBlock multi final s.count (k + 1) }
  | some f =>
    (s'.setRetryable f.retryable).setNeedsCheck.setPhase
      (if multi then .stop (some f) (.ready .first) else .finish f.err f.cls)

/-- One action of block `k` at position `p` (42_data_transfer.md R99); `none` when the data byte's address is not
backed, where the engine has no step (20_memory.md R36; assumption log 6). -/
def sendStep (multi final : Bool) (k : Nat) (p : SendPos) (s : State) : Option State :=
  match p with
  | .ready w => some (sendReady k w s)
  | .token => some { s.exchange (startToken multi) with crc16 := 0#16, phase := .send k (.data 0) }
  | .data j =>
    if s.backed (dataAddr s j) then
      some ((sendData j s).setPhase (.send k (if j + 1 < Config.blockLen then .data (j + 1) else .crcHi)))
    else none
  | .crcHi => some ((s.exchange (s.crc16.extractLsb' 8 8)).setPhase (.send k .crcLo))
  | .crcLo => some ((s.exchange (s.crc16.extractLsb' 0 8)).setPhase (.send k .response))
  | .response => some (sendResponse multi final k s)

/-- `TransmitBody(multi, final)` (42_data_transfer.md R99). -/
def transmitBody (legal multi final : Bool) (s : State) : StepResult :=
  runPhase legal .clearXfer
    (fun s =>
      match s.phase with
      | .clearXfer => .next (startData (sendBlock multi final s.count 0) s)
      | .send k p =>
        match sendStep multi final k p s with
        | some s' => .next s'
        | none => .fault .unbackedAccess
      | .stop f p => .next (stopNext f (stopStep p s))
      | .stopFailed f => .next ((s.setRetryable false).setPhase (.finish .onDrive f.cls))
      | .needsCheck => .next (s.setNeedsCheck.setPhase finishOk)
      | _ => .refused .phaseOutsideOperation)
    s

/-- TRANSMIT (42_data_transfer.md R100); COUNT > 1 is illegal (30_encoding.md R52). -/
def execTransmit (s : State) : StepResult := transmitBody (decide (s.count.toNat ≤ 1)) false false s

/-- TRANSMIT.M (42_data_transfer.md R101). -/
def execTransmitM (s : State) : StepResult := transmitBody true true false s

/-- TRANSMIT.MF (42_data_transfer.md R102). -/
def execTransmitMF (s : State) : StepResult := transmitBody true true true s

end Sys2Proof.Machine
end

