-- ==== Sys2Proof/Machine/Dispatch.lean ====
section
/-! DEFINITION. One Engine step of each operation, one arm per constructor (00_scope.md R5, 10_state.md R26). -/

namespace Sys2Proof.Machine

def exec (i : Instr) (s : State) : Host.Outcome State Fault Refusal :=
  match i with
  | .crcClear c7 c16 => Sys2Proof.Machine.execCrcClear c7 c16 s
  | .crc7Feed byte => Sys2Proof.Machine.execCrc7Feed byte s
  | .crc16Feed byte => Sys2Proof.Machine.execCrc16Feed byte s
  | .sendCmdNone idx => Sys2Proof.Machine.execSendCmdNone idx s
  | .sendCmdR1 idx => Sys2Proof.Machine.execSendCmdR1 idx s
  | .sendCmdR1B idx => Sys2Proof.Machine.execSendCmdR1B idx s
  | .sendCmdR2 idx => Sys2Proof.Machine.execSendCmdR2 idx s
  | .sendCmdR3 idx => Sys2Proof.Machine.execSendCmdR3 idx s
  | .sendCmdR7 idx => Sys2Proof.Machine.execSendCmdR7 idx s
  | .receive => Sys2Proof.Machine.execReceive s
  | .recvShort len => Sys2Proof.Machine.execRecvShort len s
  | .transmit => Sys2Proof.Machine.execTransmit s
  | .transmitM => Sys2Proof.Machine.execTransmitM s
  | .transmitMF => Sys2Proof.Machine.execTransmitMF s
  | .waitReady => Sys2Proof.Machine.execWaitReady s
  | .select => Sys2Proof.Machine.execSelect s
  | .deselect => Sys2Proof.Machine.execDeselect s
  | .resync => Sys2Proof.Machine.execResync s
  | .idle n => Sys2Proof.Machine.execIdle n s

end Sys2Proof.Machine
end

