-- ==== Sys2Proof/Machine/HostAccess.lean ====
section
/-! DEFINITION. The register window (10_state.md R10, R22 to R24; 20_memory.md R32, R33, R44) and what the host does
in one of its steps. -/

namespace Sys2Proof.Machine

/-- The sixteen register slots (10_state.md R10). -/
inductive Slot where
  | ctrl
  | status
  | op
  | arg
  | addr
  | count
  | xfer
  | resp
  | respx
  | dtoken
  | crc7
  | crc16
  | crc16Rx
  | toutRead
  | toutBusy
  | reserved
deriving DecidableEq, Repr

/-- The slot at a window offset (10_state.md R10); `none` for an offset that is not a multiple of 4 in 0x00..0x3C
(20_memory.md R32). -/
def slotAt (offset : Word) : Option Slot :=
  match offset.toNat with
  | 0x00 => some .ctrl
  | 0x04 => some .status
  | 0x08 => some .op
  | 0x0C => some .arg
  | 0x10 => some .addr
  | 0x14 => some .count
  | 0x18 => some .xfer
  | 0x1C => some .resp
  | 0x20 => some .respx
  | 0x24 => some .dtoken
  | 0x28 => some .crc7
  | 0x2C => some .crc16
  | 0x30 => some .crc16Rx
  | 0x34 => some .toutRead
  | 0x38 => some .toutBusy
  | 0x3C => some .reserved
  | _ => none

/-- What a host read of a slot returns: the current value with every reserved bit 0 (10_state.md R22). -/
def readSlot (sl : Slot) (s : State) : Word :=
  match sl with
  | .ctrl => s.ctrl.word
  | .status => statusWord s.status s.cs
  | .op => s.op
  | .arg => s.arg
  | .addr => s.addr
  | .count => s.count.setWidth 32
  | .xfer => s.xfer.setWidth 32
  | .resp => s.resp.setWidth 32
  | .respx => s.respx
  | .dtoken => s.dtoken.setWidth 32
  | .crc7 => s.crc7.setWidth 32
  | .crc16 => s.crc16.setWidth 32
  | .crc16Rx => s.crc16Rx.setWidth 32
  | .toutRead => s.toutRead
  | .toutBusy => s.toutBusy
  | .reserved => 0#32

/-- A host write to a slot other than STATUS while BUSY = 0 (10_state.md R23): OP accepts the word, a read/write
register takes it with its reserved bits forced to 0, a read-only slot and 0x3C ignore it. -/
def writeIdleSlot (sl : Slot) (w : Word) (s : State) : State :=
  match sl with
  | .ctrl => { s with ctrl := ctrlOfWord w }
  | .status => s
  | .op => s.accept w
  | .arg => { s with arg := w }
  | .addr => { s with addr := w }
  | .count => { s with count := w.setWidth 16 }
  | .xfer => s
  | .resp => s
  | .respx => s
  | .dtoken => s
  | .crc7 => s
  | .crc16 => s
  | .crc16Rx => s
  | .toutRead => { s with toutRead := w }
  | .toutBusy => { s with toutBusy := w }
  | .reserved => s

/-- A write refused because BUSY = 1: only REJ is set (10_state.md R23, R124). -/
def State.rejectWrite (s : State) : State := { s with status := { s.status with rej := true } }

/-- A host write to a slot, in the order of 10_state.md R23: STATUS first, then BUSY, then the slot. -/
def writeSlot (sl : Slot) (w : Word) (s : State) : State :=
  if sl = .status then s.writeStatus w
  else if s.status.busy then s.rejectWrite
  else writeIdleSlot sl w s

/-- The slot a register access names: a 32-bit access at a slot's offset, every other access has no meaning
(20_memory.md R32). -/
def accessedSlot (size : AccessSize) (offset : Word) : Option Slot :=
  match size with
  | .word => slotAt offset
  | .half => none
  | .byte => none

/-- The window offset of a bus address (20_memory.md R44): the window starts at `SDSPI_BASE`. -/
def windowOffset (address : Word) : Word := address - Config.sdspiBase

/-- A host read of the register window (10_state.md R22): no side effect but the value returned to the host. -/
def hostRegRead (size : AccessSize) (offset : Word) (s : State) : StepResult :=
  match accessedSlot size offset with
  | some sl => .next { s with readData := readSlot sl s }
  | none => .refused .undefinedRegisterAccess

/-- A host write of the register window (10_state.md R23). -/
def hostRegWrite (size : AccessSize) (offset value : Word) (s : State) : StepResult :=
  match accessedSlot size offset with
  | some sl => .next (writeSlot sl value s)
  | none => .refused .undefinedRegisterAccess

/-- One step of the Host agent (00_scope.md R4). Its accesses to host memory are by its own means (20_memory.md R31;
assumption log 8). -/
def hostStep (a : HostAction) (s : State) : StepResult :=
  match a with
  | .regRead size offset => hostRegRead size offset s
  | .regWrite size offset value => hostRegWrite size offset value s
  | .busRead size address => hostRegRead size (windowOffset address) s
  | .busWrite size address value => hostRegWrite size (windowOffset address) value s
  | .memRead address => .next { s with readData := (s.byteAt address).setWidth 32 }
  | .memWrite address value => .next (s.storeByte address value)

end Sys2Proof.Machine
end

