-- ==== Sys2Proof/Machine/Engine.lean ====
section
/-! DEFINITION. One turn of each agent (00_scope.md R4, R5), and how an operation word is placed in OP. -/

namespace Sys2Proof.Machine

/-- The Engine's turn when the word in OP selects no row: its decode step finishes ILLEGAL_OP/ILLEGAL
(30_encoding.md R52); no other position belongs to such a word (10_state.md R25; assumption log 15). -/
def illegalWordTurn (s : State) : StepResult :=
  match s.phase with
  | .decode => .next (s.finish .illegalOp .illegal)
  | _ => .refused .phaseOutsideOperation

/-- An engine that has no step stays where it is, BUSY = 1, and the other agents go on (20_memory.md R36, 70 R122;
assumption log 6). -/
def keepStuck (s : State) : StepResult → StepResult
  | .next s' => .next s'
  | .fault .unbackedAccess => .next s
  | .refused r => .refused r

/-- The Engine's turn: no step while idle (20_memory.md R41; assumption log 3), else one atomic action of the
operation in OP (10_state.md R13, R26). -/
def engineTurn (s : State) : StepResult :=
  match s.phase with
  | .idle => .next s
  | _ =>
    match decode s.op with
    | .ok i => keepStuck s (exec i s)
    | .error _ => illegalWordTurn s

/-- One turn of an agent or of the reset input. -/
def takeTurn (t : Turn) (s : State) : StepResult :=
  match t with
  | .engine => engineTurn s
  | .exchangeStarts => .next s.startExchange
  | .tick => .next s.tick
  | .host a => hostStep a s
  | .reset => .next s.hardReset

/-- One step of the machine: the agent whose turn `sched` says moves; with no turn listed it is the Engine's
(assumption log 2). -/
def machineStep (s : State) : StepResult :=
  match s.sched with
  | [] => engineTurn s
  | t :: rest => takeTurn t { s with sched := rest }

/-- The machine about to decode the word `w`: accepted into OP (10_state.md R24) with the Engine's turn next. -/
def State.withOpWord (s : State) (w : Word) : State :=
  { s.accept w with sched := .engine :: s.sched }

end Sys2Proof.Machine
end

