-- ==== Sys2Proof/Machine/Step.lean ====
section
/-! DEFINITION. The step of the whole machine and the placing of a table word where the next step decodes it. -/

namespace Sys2Proof.Machine

/-- One step: one atomic action of one agent (00_scope.md R4, R5). -/
def step (s : State) : Host.Outcome State Fault Refusal := machineStep s

/-- The state whose very next step decodes and starts the table word `w` (10_state.md R24: a host write of it to OP
has been accepted; assumption log 14). -/
def State.withFetchWord (s : State) (nbits w : Nat) : State := s.withOpWord (tableWord nbits w)

end Sys2Proof.Machine
end

