-- ==== Sys2Proof/Safety.lean ====
section
/-! DEFINITION. The terms the statements are made in: whole runs of an operation, the card's coming answers, the
legality of 30_encoding.md R52 in its own words, the completion table of 60_exceptions.md R114, and the invariant of
the machine. Nothing here is part of what a step does. -/

namespace Sys2Proof.Machine

/-- `k` Engine steps of the operation `i` with no other agent between them: `exec i`, `k` times. -/
def execRun (i : Instr) : Nat → State → StepResult
  | 0, s => .next s
  | k + 1, s =>
    match exec i s with
    | .next s' => execRun i k s'
    | .fault r => .fault r
    | .refused r => .refused r

/-- The card's answers to the next `n` exchanges. -/
def State.answers (s : State) : Nat → List Byte
  | 0 => []
  | n + 1 => s.answer :: ({ s with card := s.card.tail, draws := s.draws + 1 } : State).answers n

/-- `k` steps of the whole machine, whoever's turn it is. -/
def machineRun : Nat → State → StepResult
  | 0, s => .next s
  | k + 1, s =>
    match step s with
    | .next s' => machineRun k s'
    | .fault r => .fault r
    | .refused r => .refused r

/-- STATUS after a completion and everything else as it was (60_exceptions.md R109), written out. -/
def State.completedWith (err : ErrCode) (cls : CompletionClass) (s : State) : State :=
  { s with
    status := { s.status with err := err, cls := cls, busy := false, done := true }
    phase := .idle }

/-- The wire events of exchanges with the chip select at `cs`, one per pair (sent, received), NEWEST FIRST as the
trace is kept. -/
def xchgEvents (cs : Bool) (bytes : List (Byte × Byte)) : List WireEvent :=
  (bytes.map (fun p => WireEvent.xchg cs p.1 p.2)).reverse

/-- The state after one exchange per byte of `tx`, written out: the answers are taken, the events recorded. -/
def State.afterExchanges (tx : List Byte) (s : State) : State :=
  { s with
    card := s.card.drop tx.length
    draws := s.draws + tx.length
    wire := xchgEvents s.cs (tx.zip (s.answers tx.length)) ++ s.wire }

/-- The six bytes of a command frame (30_encoding.md R55). -/
def frameBytes (idx : BitVec 6) (arg : Word) : List Byte :=
  let head := [0x40#8 ||| idx.setWidth 8, arg.extractLsb' 24 8, arg.extractLsb' 16 8, arg.extractLsb' 8 8,
    arg.extractLsb' 0 8]
  head ++ [((crc7Of head).setWidth 8 <<< 1) ||| 1#8]

/-- A data packet whose CRC16 matches (30_encoding.md R59). -/
def goodPacket (data : List Byte) : List Byte :=
  [0xFE#8] ++ data ++ [(crc16Of data).extractLsb' 8 8, (crc16Of data).extractLsb' 0 8]

/-- The `n` bytes of host memory from `a` on, addresses mod 2^32. -/
def State.bytesFrom (s : State) (a : Word) (n : Nat) : List Byte :=
  (List.range n).map (fun j => s.byteAt (a + BitVec.ofNat 32 j))

/-- What the engine sends for one written block, from the ready byte to the data response (42_data_transfer.md R99,
with a card that is ready at once). -/
def sentBlock (token : Byte) (data : List Byte) : List Byte :=
  [0xFF#8, token] ++ data ++ [(crc16Of data).extractLsb' 8 8, (crc16Of data).extractLsb' 0 8, 0xFF#8]

/-- The response kind and the index of a SEND_CMD operation (30_encoding.md R51). -/
def commandOf : Instr → Option (RKind × BitVec 6)
  | .sendCmdNone idx => some (.noResp, idx)
  | .sendCmdR1 idx => some (.r1, idx)
  | .sendCmdR1B idx => some (.r1b, idx)
  | .sendCmdR2 idx => some (.r2, idx)
  | .sendCmdR3 idx => some (.r3, idx)
  | .sendCmdR7 idx => some (.r7, idx)
  | _ => none

/-- The packet length of a read operation (42_data_transfer.md R95, R96). -/
def packetLength : Instr → Option Nat
  | .receive => some 512
  | .recvShort len => some len.toNat
  | _ => none

/-- MULTI and FINAL of a TRANSMIT operation (30_encoding.md R51). -/
def writeOf : Instr → Option (Bool × Bool)
  | .transmit => some (false, false)
  | .transmitM => some (true, false)
  | .transmitMF => some (true, true)
  | _ => none

/-- How far one good block moves ADDR (10_state.md R15). -/
def blockBytes : Instr → Option Word
  | .receive => some 512#32
  | .recvShort len => some (len.setWidth 32)
  | .transmit => some 512#32
  | .transmitM => some 512#32
  | .transmitMF => some 512#32
  | _ => none

/-- Does the row of that mnemonic select the word (30_encoding.md R51)? -/
def selectsRow (name : String) (w : Word) : Bool := opcodeMap.any (fun r => r.mnemonic == name && r.selects w)

/-- `legal(w)` in the words of 30_encoding.md R52, over the rows of R51 and not over the decoder. -/
def legalWord (w : Word) (count : BitVec 16) : Bool :=
  opcodeMap.any (fun r => r.selects w) &&
    (!selectsRow "RECV_SHORT" w ||
      (decide (1 ≤ (w.extractLsb' 16 10).toNat) && decide ((w.extractLsb' 16 10).toNat ≤ 512))) &&
    (!selectsRow "IDLE" w ||
      (decide (1 ≤ (w.extractLsb' 16 11).toNat) && decide ((w.extractLsb' 16 11).toNat ≤ 1024))) &&
    (!selectsRow "TRANSMIT" w || decide (count.toNat ≤ 1))

/-- The same legality for a decoded operation. -/
def legalOp (i : Instr) (count : BitVec 16) : Bool :=
  i.wf && (!decide (i = .transmit) || decide (count.toNat ≤ 1))

/-- The first action of an operation's rule, where the decode step of a legal word goes (30_encoding.md R52). -/
def firstAction : Instr → Phase
  | .crcClear _ _ => .update
  | .crc7Feed _ => .update
  | .crc16Feed _ => .update
  | .sendCmdNone _ => .command .start
  | .sendCmdR1 _ => .command .start
  | .sendCmdR1B _ => .command .start
  | .sendCmdR2 _ => .command .start
  | .sendCmdR3 _ => .command .start
  | .sendCmdR7 _ => .command .start
  | .receive => .clearXfer
  | .recvShort _ => .clearXfer
  | .transmit => .clearXfer
  | .transmitM => .clearXfer
  | .transmitMF => .clearXfer
  | .waitReady => .waitReady .first
  | .select => .chipSelect
  | .deselect => .chipSelect
  | .resync => .resync .low
  | .idle _ => .idleByte 0

/-- The five ways a packet fails (42_data_transfer.md R92, R93). -/
def readFailures : List Failure :=
  [⟨.read, .timeout, true⟩, ⟨.read, .crc, true⟩, ⟨.read, .token, true⟩, ⟨.read, .error, false⟩,
    ⟨.invalidSector, .error, false⟩]

/-- The three ways a written block is rejected (42_data_transfer.md R97). -/
def writeFailures : List Failure :=
  [⟨.write, .crc, true⟩, ⟨.write, .error, false⟩, ⟨.write, .token, true⟩]

/-- The (ERR, CLASS) pairs of SEND_CMD with a response (60_exceptions.md R114). -/
def commandCompletions : List (ErrCode × CompletionClass) :=
  [(.noError, .ok), (.onDrive, .nack), (.onDrive, .crc), (.onDrive, .timeout), (.onDrive, .error)]

/-- The (ERR, CLASS) pairs RECEIVE and RECV_SHORT share (60_exceptions.md R114). -/
def readCompletions : List (ErrCode × CompletionClass) :=
  [(.noError, .ok), (.read, .timeout), (.read, .crc), (.read, .token), (.read, .error), (.invalidSector, .error)]

/-- The (ERR, CLASS) pairs the three TRANSMIT operations share (60_exceptions.md R114). -/
def writeCompletions : List (ErrCode × CompletionClass) :=
  [(.noError, .ok), (.write, .crc), (.write, .error), (.write, .token), (.onDrive, .timeout)]

/-- The table of 60_exceptions.md R114 but its first row (an illegal word). -/
def completions : Instr → List (ErrCode × CompletionClass)
  | .crcClear _ _ => [(.noError, .ok)]
  | .crc7Feed _ => [(.noError, .ok)]
  | .crc16Feed _ => [(.noError, .ok)]
  | .sendCmdNone _ => [(.noError, .ok)]
  | .sendCmdR1 _ => commandCompletions
  | .sendCmdR1B _ => commandCompletions
  | .sendCmdR2 _ => commandCompletions
  | .sendCmdR3 _ => commandCompletions
  | .sendCmdR7 _ => commandCompletions
  | .receive =>
    readCompletions ++ [(.onDrive, .timeout), (.onDrive, .crc), (.onDrive, .token), (.onDrive, .error)]
  | .recvShort _ => readCompletions
  | .transmit => writeCompletions
  | .transmitM => writeCompletions ++ [(.onDrive, .crc), (.onDrive, .error), (.onDrive, .token)]
  | .transmitMF => writeCompletions ++ [(.onDrive, .crc), (.onDrive, .error), (.onDrive, .token)]
  | .waitReady => [(.noError, .ok), (.onDrive, .timeout)]
  | .select => [(.noError, .ok)]
  | .deselect => [(.noError, .ok)]
  | .resync => [(.noError, .ok)]
  | .idle _ => [(.noError, .ok)]

/-- The RETRYABLE column of 60_exceptions.md R114. -/
def retryablePair (err : ErrCode) (cls : CompletionClass) : Bool :=
  [(ErrCode.read, CompletionClass.timeout), (.read, .crc), (.read, .token), (.write, .crc), (.write, .token)].contains
    (err, cls)

/-- STOPPED at the completion of an operation (42_data_transfer.md R95, R96, R100 to R103). -/
def stoppedAt (i : Instr) (err : ErrCode) : Bool :=
  match i with
  | .receive => err != .noError
  | .transmitM => err == .write
  | .transmitMF => err == .write || err == .noError
  | _ => false

/-- NEEDS_CHECK at the completion of an operation (42_data_transfer.md R99 to R102). -/
def needsCheckAt (i : Instr) (err : ErrCode) (cls : CompletionClass) (count : BitVec 16) : Bool :=
  match i with
  | .transmit => err == .write || (err == .noError && decide (count = 1#16))
  | .transmitM => err == .write || (err == .onDrive && cls != .timeout)
  | .transmitMF => err == .write || err == .noError || (err == .onDrive && cls != .timeout)
  | _ => false

/-- XFER at the completion of a data operation (42_data_transfer.md R103, items 1 and 3). -/
def xferAt (i : Instr) (err : ErrCode) (s : State) : Bool :=
  match i with
  | .receive => decide (s.xfer.toNat ≤ s.count.toNat) && (err != .noError || s.xfer == s.count)
  | .transmit => decide (s.xfer.toNat ≤ s.count.toNat) && (err != .noError || s.xfer == s.count)
  | .transmitM => decide (s.xfer.toNat ≤ s.count.toNat) && (err != .noError || s.xfer == s.count)
  | .transmitMF => decide (s.xfer.toNat ≤ s.count.toNat) && (err != .noError || s.xfer == s.count)
  | .recvShort _ => decide (s.xfer.toNat ≤ 1) && (err != .noError || s.xfer == 1#16)
  | _ => true

/-- The record an operation stands before its `Finish(err, cls)` with. -/
def endFits (i : Instr) (err : ErrCode) (cls : CompletionClass) (s : State) : Bool :=
  (completions i).contains (err, cls) && s.status.retryable == retryablePair err cls &&
    s.status.stopped == stoppedAt i err && s.status.needsCheck == needsCheckAt i err cls s.count && xferAt i err s

/-- The record fields that only a failure or a write sets are still clear. -/
def recordClear (s : State) : Bool := !s.status.retryable && !s.status.needsCheck && !s.status.stopped

/-- A class that an R1 can have (41_command.md R78). -/
def isR1Class (cls : CompletionClass) : Bool :=
  cls == .ok || cls == .nack || cls == .crc || cls == .error

/-- The positions of CmdCore(idx, _, kind) (41_command.md R84). -/
def cmdFits (kind : RKind) (idx : BitVec 6) (p : CmdPos) (s : State) : Bool :=
  match p with
  | .start => true
  | .frame k => decide (k < 6) && s.status.attempts == s.attempt
  | .stuff => kind != .noResp && idx == 12#6 && s.status.attempts == s.attempt
  | .poll k => kind != .noResp && decide (k < Config.ncrMax) && s.status.attempts == s.attempt
  | .tail k cls => decide (k < tailBytes kind) && isR1Class cls && s.status.attempts == s.attempt
  | .busy _ cls => kind == .r1b && isR1Class cls && s.status.attempts == s.attempt
  | .resync _ => kind != .noResp && s.status.attempts == s.attempt

/-- The positions of RecvPacket(n) (42_data_transfer.md R93). -/
def recvFits (n : Nat) (p : RecvPos) : Bool :=
  match p with
  | .token _ => true
  | .data j => decide (j < n)
  | .crcHi => true
  | .crcLo => true

/-- The positions of one block of TransmitBody (42_data_transfer.md R99). -/
def sendFits (p : SendPos) : Bool :=
  match p with
  | .ready _ => true
  | .token => true
  | .data j => decide (j < Config.blockLen)
  | .crcHi => true
  | .crcLo => true
  | .response => true

/-- The positions of SEND_CMD_body(kind) (41_command.md R85). -/
def commandFits (kind : RKind) (idx : BitVec 6) (s : State) : Bool :=
  match s.phase with
  | .command p => cmdFits kind idx p s && recordClear s
  | _ => false

/-- The positions of TransmitBody(multi, final), with the loop counter equal to XFER (42_data_transfer.md R99). -/
def transmitFits (multi final : Bool) (s : State) : Bool :=
  match s.phase with
  | .clearXfer => recordClear s
  | .send k p => recordClear s && decide (k < s.count.toNat) && s.xfer.toNat == k && sendFits p
  | .stop (some f) _ =>
    multi && writeFailures.contains f && decide (s.xfer.toNat < s.count.toNat) &&
      s.status.retryable == f.retryable && s.status.needsCheck && !s.status.stopped
  | .stop none _ => multi && final && recordClear s && s.xfer == s.count
  | .stopFailed f =>
    multi && writeFailures.contains f && decide (s.xfer.toNat < s.count.toNat) && s.status.needsCheck &&
      !s.status.stopped
  | .needsCheck =>
    s.xfer == s.count && !s.status.retryable && !s.status.needsCheck &&
      (if multi then final && s.status.stopped else s.count == 1#16 && !s.status.stopped)
  | _ => false

/-- `phase` is a position inside the pseudocode of the operation (10_state.md R25), with the registers that the
position fixes. -/
def phaseFits (i : Instr) (s : State) : Bool :=
  match s.phase with
  | .finish err cls => endFits i err cls s
  | _ =>
    match i with
    | .crcClear _ _ => s.phase == .update && recordClear s
    | .crc7Feed _ => s.phase == .update && recordClear s
    | .crc16Feed _ => s.phase == .update && recordClear s
    | .sendCmdNone idx => commandFits .noResp idx s
    | .sendCmdR1 idx => commandFits .r1 idx s
    | .sendCmdR1B idx => commandFits .r1b idx s
    | .sendCmdR2 idx => commandFits .r2 idx s
    | .sendCmdR3 idx => commandFits .r3 idx s
    | .sendCmdR7 idx => commandFits .r7 idx s
    | .receive =>
      match s.phase with
      | .clearXfer => recordClear s
      | .recv k p =>
        recordClear s && decide (k < s.count.toNat) && s.xfer.toNat == k && recvFits Config.blockLen p
      | .recvFailed f => recordClear s && readFailures.contains f && decide (s.xfer.toNat < s.count.toNat)
      | .autoStop f p =>
        cmdFits .r1b 12#6 p s && readFailures.contains f && decide (s.xfer.toNat < s.count.toNat) &&
          s.status.retryable == f.retryable && !s.status.needsCheck && !s.status.stopped
      | _ => false
    | .recvShort len =>
      match s.phase with
      | .clearXfer => recordClear s
      | .recv k p => recordClear s && k == 0 && s.xfer == 0#16 && recvFits len.toNat p
      | .recvFailed f => recordClear s && readFailures.contains f && s.xfer == 0#16
      | _ => false
    | .transmit => transmitFits false false s
    | .transmitM => transmitFits true false s
    | .transmitMF => transmitFits true true s
    | .waitReady =>
      match s.phase with
      | .waitReady _ => recordClear s
      | _ => false
    | .select => s.phase == .chipSelect && recordClear s
    | .deselect => s.phase == .chipSelect && recordClear s
    | .resync =>
      match s.phase with
      | .resync _ => recordClear s
      | _ => false
    | .idle n =>
      match s.phase with
      | .idleByte j => decide (j < n.toNat) && recordClear s
      | _ => false

/-- What the invariant says of STATUS (10_state.md R12, R24, R25; 60_exceptions.md R114): BUSY is 1 exactly when
`phase` is not IDLE, DONE is 0 while BUSY is 1, ERR and CLASS are 0 while BUSY is 1 and NO_ERROR and OK together
otherwise, RETRYABLE is what R114 gives the pair, and ATTEMPTS is at most CMD_RETRY while BUSY is 1. -/
def statusFits (s : State) : Bool :=
  s.status.busy == (s.phase != .idle) &&
    (if s.status.busy then
      !s.status.done && s.status.err == .noError && s.status.cls == .ok &&
        decide (s.status.attempts.toNat ≤ s.ctrl.cmdRetry.toNat)
    else
      (s.status.err == .noError) == (s.status.cls == .ok) &&
        s.status.retryable == retryablePair s.status.err s.status.cls)

/-- THE INVARIANT: host memory in canonical form, STATUS as `statusFits` says, and a busy engine at a position of
the operation in OP. -/
def State.inv (s : State) : Bool :=
  s.mem.wf && statusFits s &&
    match s.phase with
    | .idle => true
    | .decode => recordClear s && s.status.attempts == 0#4
    | _ =>
      match decode s.op with
      | .ok i => legalOp i s.count && phaseFits i s
      | .error _ => false

/-- The engine stands before a data-port access at an address that is not backed (20_memory.md R36). -/
def State.stuckAt (s : State) (a : Word) : Prop :=
  s.status.busy = true ∧ s.backed a = false ∧
    ((∃ k j, s.phase = .recv k (.data j) ∧ a = dataAddr s j ∧
        (decode s.op = .ok .receive ∨ ∃ len, decode s.op = .ok (.recvShort len))) ∨
      (∃ k j, s.phase = .send k (.data j) ∧ a = dataAddr s j ∧
        (decode s.op = .ok .transmit ∨ decode s.op = .ok .transmitM ∨ decode s.op = .ok .transmitMF)))

/-- The positions whose action reads the timebase (10_state.md R28). -/
def waiting : Phase → Bool
  | .command (.busy _ _) => true
  | .autoStop _ (.busy _ _) => true
  | .recv _ (.token _) => true
  | .send _ (.ready _) => true
  | .stop _ (.ready _) => true
  | .waitReady _ => true
  | _ => false

end Sys2Proof.Machine
end

