-- ==== Sys2Proof/Certificates/Slice0/Obligations.lean ====
section
/-! DEFINITION. The statements for the provers, from the numbered rules of spec/. Each docstring names the rules; a
clause that rests on a choice of the model names its assumption log entry. -/

open Sys2Proof Sys2Proof.Machine

/-! ## Encoding -/

/-- Decoder and encoder agree (30_encoding.md R49 to R51): every operation, with every value of every field (LEN and N
out of range included), is decoded back from its word; and a word that decodes is the word of its operation, so no
bit of it is dropped and every reserved bit is 0. -/
def Obligations.DecodeAndEncodeAreInverse : Prop :=
  (∀ i : Instr, decode (encode i) = .ok i) ∧ (∀ (w : Word) (i : Instr), decode w = .ok i → encode i = w)

/-- "at most one row matches any word" (30_encoding.md R51), and the decoder follows the rows. -/
def Obligations.DecodeFollowsTheOneRowThatSelects : Prop :=
  ∀ w : Word,
    (opcodeMap.filter (fun r => r.selects w)).length ≤ 1 ∧
    (∀ r ∈ opcodeMap, r.selects w = true → ∃ i, decode w = .ok i ∧ mnemonic i = r.mnemonic) ∧
    ((∀ r ∈ opcodeMap, r.selects w = false) → ∃ e, decode w = .error e)

/-- Every operand is its field's bits, unsigned and unscaled (30_encoding.md R50). -/
def Obligations.OperandsAreTheirFieldsBits : Prop :=
  ∀ w : Word,
    (∀ c7 c16, decode w = .ok (.crcClear c7 c16) → c7 = w.getLsbD 16 ∧ c16 = w.getLsbD 17) ∧
    (∀ b, decode w = .ok (.crc7Feed b) ∨ decode w = .ok (.crc16Feed b) → b.toNat = w.toNat / 2 ^ 16 % 2 ^ 8) ∧
    (∀ i k idx, decode w = .ok i → commandOf i = some (k, idx) → idx.toNat = w.toNat / 2 ^ 4 % 2 ^ 6) ∧
    (∀ len, decode w = .ok (.recvShort len) → len.toNat = w.toNat / 2 ^ 16 % 2 ^ 10) ∧
    (∀ n, decode w = .ok (.idle n) → n.toNat = w.toNat / 2 ^ 16 % 2 ^ 11)

/-- Words of 95_test_vectors.md, one or more of every family, decode to the operation they stand for. -/
def Obligations.SpecWordsDecode : Prop :=
  decode 0x00030001#32 = .ok (.crcClear true true) ∧
  decode 0x00AA0002#32 = .ok (.crc7Feed 0xAA#8) ∧
  decode 0x00310003#32 = .ok (.crc16Feed 0x31#8) ∧
  decode 0x00000514#32 = .ok (.sendCmdR1 17#6) ∧
  decode 0x000008C4#32 = .ok (.sendCmdR1B 12#6) ∧
  decode 0x00000CD4#32 = .ok (.sendCmdR2 13#6) ∧
  decode 0x000013A4#32 = .ok (.sendCmdR3 58#6) ∧
  decode 0x00001484#32 = .ok (.sendCmdR7 8#6) ∧
  decode 0x00040006#32 = .ok (.recvShort 4#10) ∧
  decode 0x00030007#32 = .ok .transmitMF ∧
  decode 0x0400000C#32 = .ok (.idle 1024#11)

/-- The decode step (30_encoding.md R52), over R52's own text (`legalWord`): an illegal word finishes
ILLEGAL_OP/ILLEGAL in that step with no other effect, a legal one goes to the first action of its row's rule. -/
def Obligations.DecodeStepChecksLegality : Prop :=
  ∀ s : State, s.phase = .decode →
    (legalWord s.op s.count = false → engineTurn s = .next (s.completedWith .illegalOp .illegal)) ∧
    (legalWord s.op s.count = true →
      ∃ i, decode s.op = .ok i ∧ exec i s = .next { s with phase := firstAction i } ∧
        engineTurn s = .next { s with phase := firstAction i })

/-! ## CRC generators -/

/-- The table-driven and the bit-serial CRC7 update agree for all 128 x 256 pairs (40_crc.md R63). -/
def Obligations.Crc7TableAgreesWithBitSerial : Prop :=
  ∀ (c : BitVec 7) (b : Byte), crc7TableUpdate c b = crc7Update c b

/-- The table-driven and the bit-serial CRC16 update agree for all 65536 x 256 pairs (40_crc.md R67). -/
def Obligations.Crc16TableAgreesWithBitSerial : Prop :=
  ∀ (c : BitVec 16) (b : Byte), crc16TableUpdate c b = crc16Update c b

/-- Linearity over GF(2) for messages of equal length (40_crc.md R70 item 2). -/
def Obligations.CrcIsLinear : Prop :=
  ∀ xs ys : List Byte, xs.length = ys.length →
    crc7Of (List.zipWith (· ^^^ ·) xs ys) = crc7Of xs ^^^ crc7Of ys ∧
    crc16Of (List.zipWith (· ^^^ ·) xs ys) = crc16Of xs ^^^ crc16Of ys

/-- Residue (40_crc.md R70 item 3): a message and its CRC16's two bytes leave CRC16 at 0; a message and its 7-bit CRC
as 7 more message bits leave CRC7 at 0. -/
def Obligations.CrcResidueIsZero : Prop :=
  ∀ d : List Byte,
    crc16Of (d ++ [(crc16Of d).extractLsb' 8 8, (crc16Of d).extractLsb' 0 8]) = 0#16 ∧
    ([6, 5, 4, 3, 2, 1, 0].map (crc7Of d).getLsbD).foldl crc7Bit (crc7Of d) = 0#7

/-- A single-bit error anywhere in a message changes both CRCs (40_crc.md R70 item 5). -/
def Obligations.SingleBitErrorChangesTheCrc : Prop :=
  ∀ (front back : List Byte) (b : Byte) (j : Nat), j < 8 →
    crc7Of (front ++ (b ^^^ (1#8 <<< j)) :: back) ≠ crc7Of (front ++ b :: back) ∧
    crc16Of (front ++ (b ^^^ (1#8 <<< j)) :: back) ≠ crc16Of (front ++ b :: back)

/-- CRC_CLEAR, CRC7_FEED and CRC16_FEED (40_crc.md R71, R72, R73): the update step of each, and the three steps of the
whole operation started by any word of its row; the register named changes, and nothing else but the completion. -/
def Obligations.CrcOperationsUpdateTheirRegister : Prop :=
  ∀ (s : State) (w : Word),
    let c7 := w.getLsbD 16
    let c16 := w.getLsbD 17
    let b := w.extractLsb' 16 8
    let cleared : State := { s with crc7 := if c7 then 0#7 else s.crc7, crc16 := if c16 then 0#16 else s.crc16 }
    let fed7 : State := { s with crc7 := crc7Update s.crc7 b }
    let fed16 : State := { s with crc16 := crc16Update s.crc16 b }
    (w &&& 0xFFFCFFFF#32 = 0x00000001#32 →
      decode w = .ok (.crcClear c7 c16) ∧
      (s.phase = .update → exec (.crcClear c7 c16) s = .next { cleared with phase := .finish .noError .ok }) ∧
      (s.phase = .decode → execRun (.crcClear c7 c16) 3 s = .next (cleared.completedWith .noError .ok))) ∧
    (w &&& 0xFF00FFFF#32 = 0x00000002#32 →
      decode w = .ok (.crc7Feed b) ∧
      (s.phase = .update → exec (.crc7Feed b) s = .next { fed7 with phase := .finish .noError .ok }) ∧
      (s.phase = .decode → execRun (.crc7Feed b) 3 s = .next (fed7.completedWith .noError .ok))) ∧
    (w &&& 0xFF00FFFF#32 = 0x00000003#32 →
      decode w = .ok (.crc16Feed b) ∧
      (s.phase = .update → exec (.crc16Feed b) s = .next { fed16 with phase := .finish .noError .ok }) ∧
      (s.phase = .decode → execRun (.crc16Feed b) 3 s = .next (fed16.completedWith .noError .ok)))

/-! ## Commands -/

/-- SEND_CMD.NONE (41_command.md R86, R74): the six frame bytes and nothing else, the CRC7 of the first five left in
CRC7, no response read, `Finish(NO_ERROR, OK)`. `attempt` and ATTEMPTS are 0 (R84). -/
def Obligations.SendCmdNoneSendsOnlyTheFrame : Prop :=
  ∀ (idx : BitVec 6) (s : State), s.phase = .decode →
    execRun (.sendCmdNone idx) 8 s =
      .next
        (({ s.afterExchanges (frameBytes idx s.arg) with
            crc7 := crc7Of ((frameBytes idx s.arg).take 5)
            attempt := 0#4
            status := { s.status with attempts := 0#4 } } : State).completedWith .noError .ok)

/-- The command frame of every SEND_CMD, one byte a step (41_command.md R74, 30_encoding.md R55): each of the first five
bytes goes into the CRC7, which starts at 0, and the sixth carries it; NONE then finishes, every other kind has RESPX
cleared and goes on to the stuff byte when the index is 12 (R75), else to the poll (R76). The step of a call's first
byte also clears `attempt` and ATTEMPTS (R84); that step, and the last frame byte's for RESPX, are the model's choice of
where unmarked updates happen (assumption log 1). -/
def Obligations.CommandAttemptSendsItsFrame : Prop :=
  ∀ (i : Instr) (kind : RKind) (idx : BitVec 6) (s : State), commandOf i = some (kind, idx) →
    let b₀ := 0x40#8 ||| idx.setWidth 8
    (s.phase = .command .start →
      exec i s =
        .next
          { s.exchange b₀ with
            crc7 := crc7Update 0#7 b₀
            attempt := 0#4
            status := { s.status with attempts := 0#4 }
            phase := .command (.frame 1) }) ∧
    (∀ k, k < 5 → s.phase = .command (.frame k) →
      let b := (frameBytes idx s.arg).getD k 0#8
      exec i s =
        .next
          { s.exchange b with
            crc7 := crc7Update (if k = 0 then 0#7 else s.crc7) b
            phase := .command (.frame (k + 1)) }) ∧
    (s.phase = .command (.frame 5) →
      exec i s =
        .next
          { s.exchange ((s.crc7.setWidth 8 <<< 1) ||| 1#8) with
            respx := if kind = .noResp then s.respx else 0#32
            phase :=
              if kind = .noResp then .finish .noError .ok
              else .command (if idx = 12#6 then .stuff else .poll 0) }) ∧
    (kind ≠ .noResp → s.phase = .command (.frame 0) →
      execRun i 6 s =
        .next
          { s.afterExchanges (frameBytes idx s.arg) with
            crc7 := crc7Of ((frameBytes idx s.arg).take 5)
            respx := 0#32
            phase := .command (if idx = 12#6 then .stuff else .poll 0) })

/-- `classify(r)` (41_command.md R78): com CRC error first, then illegal command or erase sequence error, then
address or parameter error; bits 0 and 1 are no errors. -/
def Obligations.R1ClassificationHasItsPriority : Prop :=
  ∀ r : Byte,
    (r.getLsbD 3 = true → classifyR1 r = .crc) ∧
    (r.getLsbD 3 = false → (r.getLsbD 2 = true ∨ r.getLsbD 4 = true) → classifyR1 r = .error) ∧
    (r.getLsbD 3 = false → r.getLsbD 2 = false → r.getLsbD 4 = false →
      (r.getLsbD 5 = true ∨ r.getLsbD 6 = true) → classifyR1 r = .nack) ∧
    (r &&& 0x7C#8 = 0#8 → classifyR1 r = .ok)

/-- One poll byte (41_command.md R76, R77, R79, R82, R85). The retry is counted in the step of the byte that ended the
attempt (assumption log 1). -/
def Obligations.PollByteDecidesTheAttempt : Prop :=
  ∀ (i : Instr) (kind : RKind) (idx : BitVec 6) (k : Nat) (s : State),
    commandOf i = some (kind, idx) → kind ≠ .noResp → s.phase = .command (.poll k) → k < 8 →
    let rx := s.answer
    let s₁ := s.exchange 0xFF#8
    let r1 := if idx = 12#6 then rx &&& 0xBB#8 else rx
    let retried : State → State := fun s =>
      { s with
        attempt := s.attempt + 1#4
        status := { s.status with attempts := s.attempt + 1#4 }
        phase := .command (.resync .low) }
    (rx.getLsbD 7 = true → k < 7 → exec i s = .next { s₁ with phase := .command (.poll (k + 1)) }) ∧
    (rx.getLsbD 7 = true → k = 7 → s.attempt.toNat < s.ctrl.cmdRetry.toNat →
      exec i s = .next (retried { s₁ with resp := rx })) ∧
    (rx.getLsbD 7 = true → k = 7 → s.ctrl.cmdRetry.toNat ≤ s.attempt.toNat →
      exec i s = .next { s₁ with resp := rx, phase := .finish .onDrive .timeout }) ∧
    (rx.getLsbD 7 = false → kind = .r1b →
      exec i s = .next { s₁ with resp := r1, phase := .command (.busy .first (classifyR1 r1)) }) ∧
    (rx.getLsbD 7 = false → kind = .r2 ∨ kind = .r3 ∨ kind = .r7 →
      exec i s = .next { s₁ with resp := r1, phase := .command (.tail 0 (classifyR1 r1)) }) ∧
    (rx.getLsbD 7 = false → kind = .r1 → classifyR1 r1 = .crc → s.attempt.toNat < s.ctrl.cmdRetry.toNat →
      exec i s = .next (retried { s₁ with resp := r1 })) ∧
    (rx.getLsbD 7 = false → kind = .r1 →
      ¬(classifyR1 r1 = .crc ∧ s.attempt.toNat < s.ctrl.cmdRetry.toNat) →
      exec i s =
        .next
          { s₁ with
            resp := r1
            phase := if classifyR1 r1 = .ok then .finish .noError .ok else .finish .onDrive (classifyR1 r1) })

/-- The end of an attempt with a tail or a busy wait (41_command.md R79, R80, R82, R85): RESPX is assembled first byte
highest, a busy wait that times out is class TIMEOUT and never retried, predicate before limit (10_state.md R28). The retry
is counted in the step of the byte that ended the attempt, which is the model's choice (assumption log 1). -/
def Obligations.TailAndBusyWaitEndTheAttempt : Prop :=
  ∀ (i : Instr) (kind : RKind) (idx : BitVec 6) (s : State), commandOf i = some (kind, idx) →
    let rx := s.answer
    let ended : CompletionClass → Bool → State → State := fun cls retryable t =>
      if retryable = true ∧ s.attempt.toNat < s.ctrl.cmdRetry.toNat then
        { t with
          attempt := s.attempt + 1#4
          status := { s.status with attempts := s.attempt + 1#4 }
          phase := .command (.resync .low) }
      else { t with phase := if cls = .ok then .finish .noError .ok else .finish .onDrive cls }
    (∀ cls, kind = .r2 → s.phase = .command (.tail 0 cls) →
      exec i s = .next (ended cls (cls == .crc) { s.exchange 0xFF#8 with respx := rx.setWidth 32 })) ∧
    (∀ k cls, kind = .r3 ∨ kind = .r7 → k < 4 → s.phase = .command (.tail k cls) →
      let t : State := { s.exchange 0xFF#8 with respx := (s.respx <<< 8) ||| rx.setWidth 32 }
      exec i s =
        .next (if k < 3 then { t with phase := .command (.tail (k + 1) cls) } else ended cls (cls == .crc) t)) ∧
    (∀ wp cls, kind = .r1b → s.phase = .command (.busy wp cls) →
      let t0 := if wp = .first then s.ticks else s.t0
      let t : State := { s.exchange 0xFF#8 with t0 := t0 }
      exec i s =
        .next
          (if rx = 0xFF#8 then ended cls (cls == .crc) t
          else if s.toutBusy.toNat ≤ (s.ticks - t0).toNat then ended .timeout false t
          else { t with phase := .command (.busy .again cls) }))

/-- The stuff byte of CMD12 (41_command.md R75) and `Resync()` with the next attempt after it (R81, R82). -/
def Obligations.StuffByteAndResyncLeadToTheirNext : Prop :=
  ∀ (i : Instr) (kind : RKind) (idx : BitVec 6) (s : State), commandOf i = some (kind, idx) →
    (s.phase = .command .stuff → exec i s = .next { s.exchange 0xFF#8 with phase := .command (.poll 0) }) ∧
    (s.phase = .command (.resync .low) →
      execRun i 3 s =
        .next
          { s with
            cs := true
            wire := .cs true :: .xchg false 0xFF#8 s.answer :: .cs false :: s.wire
            card := s.card.tail
            draws := s.draws + 1
            phase := .command (.frame 0) })

/-- A whole SEND_CMD with a response whose first attempt succeeds (41_command.md R84, R85, R87 to R91): the frame, the
stuff byte of CMD12, up to 7 bytes with bit 7 set, an R1 without error bits, the tail of the kind, and for R1B a busy
card that ends busy before any tick. No other register changes. -/
def Obligations.SendCmdSucceedsOnAGoodResponse : Prop :=
  ∀ (i : Instr) (kind : RKind) (idx : BitVec 6) (s : State) (during stuff stray tail busy rest : List Byte)
    (r1 : Byte),
    commandOf i = some (kind, idx) → kind ≠ .noResp → s.phase = .decode →
    during.length = 6 → stuff.length = (if idx = 12#6 then 1 else 0) →
    stray.length ≤ 7 → (∀ b ∈ stray, b.getLsbD 7 = true) →
    r1.getLsbD 7 = false → classifyR1 (maskR1 idx r1) = .ok →
    tail.length = tailBytes kind →
    (kind ≠ .r1b → busy = []) →
    (kind = .r1b → ∃ front, busy = front ++ [0xFF#8] ∧ (∀ b ∈ front, b ≠ 0xFF#8) ∧
      (front = [] ∨ s.toutBusy ≠ 0#32)) →
    s.card = during ++ stuff ++ stray ++ [r1] ++ tail ++ busy ++ rest →
    let n := stuff.length + stray.length + 1 + tail.length + busy.length
    execRun i (n + 8) s =
      .next
        (({ s.afterExchanges (frameBytes idx s.arg ++ List.replicate n 0xFF#8) with
            crc7 := crc7Of ((frameBytes idx s.arg).take 5)
            resp := maskR1 idx r1
            respx := tail.foldl (fun x b => (x <<< 8) ||| b.setWidth 32) 0#32
            attempt := 0#4
            t0 := if kind = .r1b then s.ticks else s.t0
            status := { s.status with attempts := 0#4 } } : State).completedWith .noError .ok)

/-- A card that never answers (41_command.md R76, R82, 95_test_vectors.md V-SC1b): SEND_CMD.R1 makes `1 + CMD_RETRY`
attempts of 14 exchanges with a resync before each retry, then finishes ON_DRIVE/TIMEOUT with ATTEMPTS = CMD_RETRY. -/
def Obligations.SilentCardExhaustsTheRetries : Prop :=
  ∀ (idx : BitVec 6) (s : State) (rest : List Byte), idx ≠ 12#6 → s.phase = .decode →
    let r := s.ctrl.cmdRetry.toNat
    s.card = List.replicate (14 * (r + 1) + r) 0xFF#8 ++ rest →
    ∃ t, execRun (.sendCmdR1 idx) (14 * (r + 1) + 3 * r + 2) s = .next t ∧
      t.status =
        { s.status with
          err := .onDrive
          cls := .timeout
          busy := false
          done := true
          attempts := s.ctrl.cmdRetry } ∧
      t.resp = 0xFF#8 ∧ t.respx = 0#32 ∧ t.phase = .idle ∧ t.card = rest ∧
      t.draws = s.draws + (14 * (r + 1) + r)

/-- What a SEND_CMD step leaves unchanged, whatever its position (41_command.md R85): every register it is not said to
write, all of memory, and RESP and RESPX too for NONE. -/
def Obligations.SendCmdFrame : Prop :=
  ∀ (i : Instr) (kind : RKind) (idx : BitVec 6) (s t : State),
    commandOf i = some (kind, idx) → exec i s = .next t →
    t.addr = s.addr ∧ t.xfer = s.xfer ∧ t.dtoken = s.dtoken ∧ t.crc16 = s.crc16 ∧ t.crc16Rx = s.crc16Rx ∧
    t.status.derr = s.status.derr ∧ t.status.retryable = s.status.retryable ∧
    t.status.needsCheck = s.status.needsCheck ∧ t.status.stopped = s.status.stopped ∧
    (∀ a, t.byteAt a = s.byteAt a) ∧
    (kind = .noResp → s.inv = true → decode s.op = .ok i → t.resp = s.resp ∧ t.respx = s.respx ∧ t.cs = s.cs)

/-! ## Reads -/

/-- One exchange of the start-token wait of RECEIVE and RECV_SHORT (42_data_transfer.md R92): the four rows of R92,
DTOKEN and DERR, and the cleared CRC16 of a start block. `n` is the packet length. -/
def Obligations.StartTokenIsRecognised : Prop :=
  ∀ (i : Instr) (n k : Nat) (wp : WaitPos) (s : State),
    packetLength i = some n → 0 < n → s.phase = .recv k (.token wp) →
    let tok := s.answer
    let t0 := if wp = .first then s.ticks else s.t0
    let s₁ : State := { s.exchange 0xFF#8 with t0 := t0 }
    (tok = 0xFF#8 → (s.ticks - t0).toNat < s.toutRead.toNat →
      exec i s = .next { s₁ with phase := .recv k (.token .again) }) ∧
    (tok = 0xFF#8 → s.toutRead.toNat ≤ (s.ticks - t0).toNat →
      exec i s = .next { s₁ with dtoken := 0xFF#8, phase := .recvFailed ⟨.read, .timeout, true⟩ }) ∧
    (tok = 0xFE#8 →
      exec i s = .next { s₁ with dtoken := 0xFE#8, crc16 := 0#16, phase := .recv k (.data 0) }) ∧
    (tok.toNat < 0x10 →
      exec i s =
        .next
          { s₁ with
            dtoken := tok
            status := { s.status with derr := tok.extractLsb' 0 4 }
            phase :=
              .recvFailed
                ⟨if tok.getLsbD 2 = true ∨ tok.getLsbD 3 = true then .invalidSector else .read, .error, false⟩ }) ∧
    (0x10 ≤ tok.toNat → tok ≠ 0xFE#8 → tok ≠ 0xFF#8 →
      exec i s = .next { s₁ with dtoken := tok, phase := .recvFailed ⟨.read, .token, true⟩ })

/-- The data and CRC bytes of a packet (42_data_transfer.md R93): byte j goes to host memory at ADDR + j and into the
CRC16, an address that is not backed is no step (20_memory.md R36), and only a matching CRC16 moves ADDR and XFER. -/
def Obligations.PacketBytesAreStoredAndChecked : Prop :=
  ∀ (i : Instr) (n k : Nat) (s : State), packetLength i = some n →
    let d := s.answer
    let s₁ := s.exchange 0xFF#8
    (∀ j, s.phase = .recv k (.data j) → s.backed (dataAddr s j) = true →
      exec i s =
        .next
          { s₁ with
            mem := s.mem.write (dataAddr s j).toNat d
            crc16 := crc16Update s.crc16 d
            phase := .recv k (if j + 1 < n then .data (j + 1) else .crcHi) }) ∧
    (∀ j, s.phase = .recv k (.data j) → s.backed (dataAddr s j) = false → exec i s = .fault .unbackedAccess) ∧
    (s.phase = .recv k .crcHi →
      exec i s = .next { s₁ with crc16Rx := d.setWidth 16 <<< 8, phase := .recv k .crcLo }) ∧
    (s.phase = .recv k .crcLo → s.crc16Rx ||| d.setWidth 16 ≠ s.crc16 →
      exec i s =
        .next { s₁ with crc16Rx := s.crc16Rx ||| d.setWidth 16, phase := .recvFailed ⟨.read, .crc, true⟩ }) ∧
    (s.phase = .recv k .crcLo → s.crc16Rx ||| d.setWidth 16 = s.crc16 →
      exec i s =
        .next
          { s₁ with
            crc16Rx := s.crc16
            addr := s.addr + BitVec.ofNat 32 n
            xfer := s.xfer + 1#16
            phase :=
              if i = .receive ∧ k + 1 < s.count.toNat then .recv (k + 1) (.token .first)
              else .finish .noError .ok })

/-- A whole RECV_SHORT whose packet is good (42_data_transfer.md R96): `m` idle bytes, the start token, LEN bytes and
their CRC16. The bytes are in memory at ADDR .. ADDR + LEN - 1 and nothing else of memory has changed. -/
def Obligations.RecvShortStoresAGoodPacket : Prop :=
  ∀ (len : BitVec 10) (s : State) (m : Nat) (data rest : List Byte),
    (Instr.recvShort len).wf = true → s.phase = .decode → s.mem.wf = true → data.length = len.toNat →
    (∀ a, s.backed a = true) → (m = 0 ∨ s.toutRead ≠ 0#32) →
    s.card = List.replicate m 0xFF#8 ++ goodPacket data ++ rest →
    ∃ t, execRun (.recvShort len) (m + len.toNat + 6) s = .next t ∧
      t.phase = .idle ∧
      t.status = { s.status with err := .noError, cls := .ok, busy := false, done := true } ∧
      t.xfer = 1#16 ∧ t.addr = s.addr + len.setWidth 32 ∧ t.dtoken = 0xFE#8 ∧
      t.crc16 = crc16Of data ∧ t.crc16Rx = crc16Of data ∧ t.card = rest ∧
      t.bytesFrom s.addr len.toNat = data ∧
      (∀ a, (∀ j, j < len.toNat → a ≠ s.addr + BitVec.ofNat 32 j) → t.byteAt a = s.byteAt a)

/-- A whole RECEIVE of COUNT good blocks (42_data_transfer.md R95): every block in memory in order, XFER = COUNT, ADDR
advanced by 512 * COUNT, no command sent, nothing else of memory changed. COUNT = 0 exchanges no byte. -/
def Obligations.ReceiveStoresEveryGoodBlock : Prop :=
  ∀ (s : State) (blocks : List (List Byte)) (rest : List Byte),
    s.phase = .decode → s.mem.wf = true → (∀ a, s.backed a = true) →
    blocks.length = s.count.toNat → (∀ b ∈ blocks, b.length = 512) →
    s.card = (blocks.map goodPacket).flatten ++ rest →
    ∃ t, execRun .receive (515 * blocks.length + 3) s = .next t ∧
      t.phase = .idle ∧
      t.status = { s.status with err := .noError, cls := .ok, busy := false, done := true } ∧
      t.xfer = s.count ∧ t.addr = s.addr + BitVec.ofNat 32 (512 * blocks.length) ∧
      t.card = rest ∧ t.draws = s.draws + 515 * blocks.length ∧
      t.bytesFrom s.addr (512 * blocks.length) = blocks.flatten ∧
      (∀ a, (∀ j, j < 512 * blocks.length → a ≠ s.addr + BitVec.ofNat 32 j) → t.byteAt a = s.byteAt a) ∧
      t.resp = s.resp ∧ t.respx = s.respx ∧ t.crc7 = s.crc7 ∧ t.cs = s.cs

/-- The automatic stop of RECEIVE (42_data_transfer.md R94): CMD12 with argument 0 and kind R1B, whatever ARG holds;
CLASS keeps the data failure's class, STOPPED is 1, and a stop whose R1 is an error makes ERR ON_DRIVE and clears
RETRYABLE. Three clauses: at EVERY position of that CmdCore call the step is the step of SEND_CMD.R1B with index 12 and
argument 0 there, and what its end becomes (so the retried, R1-less, CRC-class and busy-timeout paths are those of
SEND_CMD; STOPPED and RETRYABLE in CmdCore's last action: R94 and, for RETRYABLE, assumption log 1); a silent card
exhausts the retries (95_test_vectors.md V-RX9); a card that answers at the first attempt with an R1 that is no CRC error
and ends busy before any tick. -/
def Obligations.FailedReceiveStopsTheCard : Prop :=
  (∀ (f : Failure) (p : CmdPos) (s : State), s.phase = .autoStop f p →
    ∃ u, exec (.sendCmdR1B 12#6) { s with arg := 0#32, phase := .command p } = .next u ∧
      (∀ q, u.phase = .command q → exec .receive s = .next { u with arg := s.arg, phase := .autoStop f q }) ∧
      (u.phase = .finish .noError .ok →
        exec .receive s =
          .next
            { u with
              arg := s.arg
              status := { u.status with stopped := true }
              phase := .finish f.err f.cls }) ∧
      (∀ cls, u.phase = .finish .onDrive cls →
        exec .receive s =
          .next
            { u with
              arg := s.arg
              status := { u.status with stopped := true, retryable := false }
              phase := .finish .onDrive f.cls }) ∧
      ((∃ q, u.phase = .command q) ∨ u.phase = .finish .noError .ok ∨ ∃ cls, u.phase = .finish .onDrive cls)) ∧
  (∀ (f : Failure) (s : State) (rest : List Byte), s.phase = .recvFailed f →
    let r := s.ctrl.cmdRetry.toNat
    s.card = List.replicate (15 * (r + 1) + r) 0xFF#8 ++ rest →
    ∃ t, execRun .receive (15 * (r + 1) + 3 * r + 2) s = .next t ∧
      t.status =
        { s.status with
          err := .onDrive
          cls := f.cls
          busy := false
          done := true
          attempts := s.ctrl.cmdRetry
          stopped := true
          retryable := false } ∧
      t.resp = 0xFF#8 ∧ t.respx = 0#32 ∧ t.crc7 = 0x30#7 ∧ t.arg = s.arg ∧ t.phase = .idle ∧ t.card = rest ∧
      t.draws = s.draws + (15 * (r + 1) + r)) ∧
  ∀ (f : Failure) (s : State) (during stray front rest : List Byte) (stuff r1 : Byte),
    s.phase = .recvFailed f → during.length = 6 → stray.length ≤ 7 → (∀ b ∈ stray, b.getLsbD 7 = true) →
    r1.getLsbD 7 = false → classifyR1 (r1 &&& 0xBB#8) ≠ .crc →
    (∀ b ∈ front, b ≠ 0xFF#8) → (front = [] ∨ s.toutBusy ≠ 0#32) →
    s.card = during ++ [stuff] ++ stray ++ [r1] ++ front ++ [0xFF#8] ++ rest →
    let n := stray.length + front.length + 3
    let good := classifyR1 (r1 &&& 0xBB#8) = .ok
    execRun .receive (n + 8) s =
      .next
        (({ s.afterExchanges (frameBytes 12#6 0#32 ++ List.replicate n 0xFF#8) with
            crc7 := 0x30#7
            resp := r1 &&& 0xBB#8
            respx := 0#32
            attempt := 0#4
            t0 := s.ticks
            status :=
              { s.status with
                attempts := 0#4
                stopped := true
                retryable := f.retryable && decide good } } : State).completedWith
          (if good then f.err else .onDrive) f.cls)

/-- A failed packet of RECV_SHORT (42_data_transfer.md R96): RETRYABLE, then `Finish` with the failure, and no
automatic stop. -/
def Obligations.FailedRecvShortSendsNoStop : Prop :=
  ∀ (len : BitVec 10) (f : Failure) (s : State), s.phase = .recvFailed f →
    exec (.recvShort len) s =
      .next
        { s with status := { s.status with retryable := f.retryable }, phase := .finish f.err f.cls } ∧
    execRun (.recvShort len) 2 s =
      .next (({ s with status := { s.status with retryable := f.retryable } } : State).completedWith f.err f.cls)

/-- The first action of the data operations (42_data_transfer.md R95, R96, R99): XFER is cleared; COUNT = 0 finishes
RECEIVE, TRANSMIT and TRANSMIT.M, and takes TRANSMIT.MF to its stop sequence. -/
def Obligations.DataOperationsClearXfer : Prop :=
  ∀ (s : State) (len : BitVec 10), s.phase = .clearXfer →
    exec .receive s =
      .next
        { s with
          xfer := 0#16
          phase := if s.count = 0#16 then .finish .noError .ok else .recv 0 (.token .first) } ∧
    exec (.recvShort len) s = .next { s with xfer := 0#16, phase := .recv 0 (.token .first) } ∧
    exec .transmit s =
      .next
        { s with
          xfer := 0#16
          phase := if s.count = 0#16 then .finish .noError .ok else .send 0 (.ready .first) } ∧
    exec .transmitM s =
      .next
        { s with
          xfer := 0#16
          phase := if s.count = 0#16 then .finish .noError .ok else .send 0 (.ready .first) } ∧
    exec .transmitMF s =
      .next
        { s with
          xfer := 0#16
          phase := if s.count = 0#16 then .stop none (.ready .first) else .send 0 (.ready .first) }

/-- What a step of RECEIVE and of RECV_SHORT leaves unchanged, whatever its position (42_data_transfer.md R95, R96): the
address stored to is `dataAddr s j` at data byte j, every other byte of memory is as before, and a step at any other
position stores nothing. -/
def Obligations.ReadOperationsFrame : Prop :=
  ∀ (i : Instr) (n : Nat) (s t : State), packetLength i = some n → exec i s = .next t →
    (∀ k j, s.phase = .recv k (.data j) →
      (∀ a, a ≠ dataAddr s j → t.byteAt a = s.byteAt a) ∧ (s.mem.wf = true → t.byteAt (dataAddr s j) = s.answer)) ∧
    ((∀ k j, s.phase ≠ .recv k (.data j)) → ∀ a, t.byteAt a = s.byteAt a) ∧
    t.status.needsCheck = s.status.needsCheck ∧
    (i ≠ .receive →
      t.resp = s.resp ∧ t.respx = s.respx ∧ t.crc7 = s.crc7 ∧ t.attempt = s.attempt ∧ t.cs = s.cs ∧
        t.status.attempts = s.status.attempts ∧ t.status.stopped = s.status.stopped) ∧
    ((∀ f, s.phase ≠ .recvFailed f) → (∀ f p, s.phase ≠ .autoStop f p) →
      t.resp = s.resp ∧ t.respx = s.respx ∧ t.crc7 = s.crc7 ∧ t.attempt = s.attempt ∧ t.cs = s.cs ∧
        t.status.attempts = s.status.attempts ∧ t.status.stopped = s.status.stopped ∧
        t.status.retryable = s.status.retryable)

/-! ## Writes -/

/-- The bytes of a written block before its data response (42_data_transfer.md R99): the ready wait (predicate before
limit, ON_DRIVE/TIMEOUT with no stop sequence), the token, the data read at ADDR + j and taken into the CRC16, the two
CRC bytes; an address that is not backed is no step (20_memory.md R36). -/
def Obligations.WrittenBlockIsSentByteByByte : Prop :=
  ∀ (i : Instr) (multi final : Bool) (k : Nat) (s : State), writeOf i = some (multi, final) →
    (∀ wp, s.phase = .send k (.ready wp) →
      let t0 := if wp = .first then s.ticks else s.t0
      exec i s =
        .next
          { s.exchange 0xFF#8 with
            t0 := t0
            phase :=
              if s.answer = 0xFF#8 then .send k .token
              else if s.toutBusy.toNat ≤ (s.ticks - t0).toNat then .finish .onDrive .timeout
              else .send k (.ready .again) }) ∧
    (s.phase = .send k .token →
      exec i s =
        .next
          { s.exchange (if multi then 0xFC#8 else 0xFE#8) with crc16 := 0#16, phase := .send k (.data 0) }) ∧
    (∀ j, s.phase = .send k (.data j) → s.backed (dataAddr s j) = true →
      let d := s.byteAt (dataAddr s j)
      exec i s =
        .next
          { s.exchange d with
            crc16 := crc16Update s.crc16 d
            phase := .send k (if j + 1 < 512 then .data (j + 1) else .crcHi) }) ∧
    (∀ j, s.phase = .send k (.data j) → s.backed (dataAddr s j) = false → exec i s = .fault .unbackedAccess) ∧
    (s.phase = .send k .crcHi →
      exec i s = .next { s.exchange (s.crc16.extractLsb' 8 8) with phase := .send k .crcLo }) ∧
    (s.phase = .send k .crcLo →
      exec i s = .next { s.exchange (s.crc16.extractLsb' 0 8) with phase := .send k .response })

/-- The data response (42_data_transfer.md R97, R99): exactly one byte, its low five bits classified; an accepted block
moves ADDR and XFER and goes to the next block or to what ends the operation, a rejection sets RETRYABLE and
NEEDS_CHECK and goes to the stop sequence (MULTI) or to `Finish`. -/
def Obligations.DataResponseIsRecognised : Prop :=
  ∀ (i : Instr) (multi final : Bool) (k : Nat) (s : State),
    writeOf i = some (multi, final) → s.phase = .send k .response →
    let dr := s.answer
    let low := dr.toNat % 32
    (low = 0x05 →
      exec i s =
        .next
          { s.exchange 0xFF#8 with
            dtoken := dr
            addr := s.addr + 512#32
            xfer := s.xfer + 1#16
            phase :=
              if k + 1 < s.count.toNat then .send (k + 1) (.ready .first)
              else if multi = true ∧ final = true then .stop none (.ready .first)
              else if multi = false ∧ s.count = 1#16 then .needsCheck
              else .finish .noError .ok }) ∧
    (low ≠ 0x05 →
      let f : Failure :=
        if low = 0x0B then ⟨.write, .crc, true⟩
        else if low = 0x0D then ⟨.write, .error, false⟩
        else ⟨.write, .token, true⟩
      exec i s =
        .next
          { s.exchange 0xFF#8 with
            dtoken := dr
            status := { s.status with retryable := f.retryable, needsCheck := true }
            phase := if multi then .stop (some f) (.ready .first) else .finish f.err f.cls })

/-- StopSeq and what follows it (42_data_transfer.md R98, R99): the ready wait, 0xFD, one stuff byte with STOPPED; after
a rejection `Finish` with its failure, or ON_DRIVE with its class and RETRYABLE 0 when the wait timed out; after the
last block NEEDS_CHECK and `Finish(NO_ERROR, OK)`, or ON_DRIVE/TIMEOUT. -/
def Obligations.StopSequenceEndsAMultipleWrite : Prop :=
  ∀ (i : Instr) (multi final : Bool) (o : Option Failure) (s : State), writeOf i = some (multi, final) →
    (∀ wp, s.phase = .stop o (.ready wp) →
      let t0 := if wp = .first then s.ticks else s.t0
      exec i s =
        .next
          { s.exchange 0xFF#8 with
            t0 := t0
            phase :=
              if s.answer = 0xFF#8 then .stop o .token
              else if s.toutBusy.toNat ≤ (s.ticks - t0).toNat then
                (match o with
                  | some f => .stopFailed f
                  | none => .finish .onDrive .timeout)
              else .stop o (.ready .again) }) ∧
    (s.phase = .stop o .token → exec i s = .next { s.exchange 0xFD#8 with phase := .stop o .stuff }) ∧
    (s.phase = .stop o .stuff →
      exec i s =
        .next
          { s.exchange 0xFF#8 with
            status := { s.status with stopped := true }
            phase :=
              match o with
              | some f => .finish f.err f.cls
              | none => .needsCheck }) ∧
    (∀ f, s.phase = .stopFailed f →
      exec i s =
        .next { s with status := { s.status with retryable := false }, phase := .finish .onDrive f.cls }) ∧
    (s.phase = .needsCheck →
      exec i s =
        .next { s with status := { s.status with needsCheck := true }, phase := .finish .noError .ok })

/-- A whole TRANSMIT of one block that the card accepts (42_data_transfer.md R100): the ready byte, 0xFE, the 512 bytes
of host memory at ADDR, their CRC16, one byte for the response; XFER = 1, ADDR + 512, NEEDS_CHECK = 1. -/
def Obligations.TransmitSendsOneBlock : Prop :=
  ∀ (s : State) (dr : Byte) (during rest : List Byte),
    s.phase = .decode → s.count = 1#16 → (∀ a, s.backed a = true) →
    during.length = 515 → dr.toNat % 32 = 5 → s.card = [0xFF#8] ++ during ++ [dr] ++ rest →
    execRun .transmit 521 s =
      .next
        (({ s.afterExchanges (sentBlock 0xFE#8 (s.bytesFrom s.addr 512)) with
            t0 := s.ticks
            dtoken := dr
            crc16 := crc16Of (s.bytesFrom s.addr 512)
            xfer := 1#16
            addr := s.addr + 512#32
            status := { s.status with needsCheck := true } } : State).completedWith .noError .ok)

/-- A whole TRANSMIT.M of COUNT blocks that the card accepts (42_data_transfer.md R101): every block of host memory from
ADDR on goes out with token 0xFC and its CRC16, the stream stays open (NEEDS_CHECK and STOPPED as they were). -/
def Obligations.TransmitMStreamsEveryBlock : Prop :=
  ∀ (s : State) (answers : List (List Byte)) (rest : List Byte),
    s.phase = .decode → (∀ a, s.backed a = true) → answers.length = s.count.toNat →
    (∀ l ∈ answers, ∃ during dr, l = [0xFF#8] ++ during ++ [dr] ∧ during.length = 515 ∧ dr.toNat % 32 = 5) →
    s.card = answers.flatten ++ rest →
    ∃ t, execRun .transmitM (517 * answers.length + 3) s = .next t ∧
      t.phase = .idle ∧
      t.status = { s.status with err := .noError, cls := .ok, busy := false, done := true } ∧
      t.xfer = s.count ∧ t.addr = s.addr + BitVec.ofNat 32 (512 * answers.length) ∧ t.card = rest ∧
      t.wire =
        xchgEvents s.cs
          (((List.range answers.length).flatMap
              (fun k => sentBlock 0xFC#8 (s.bytesFrom (s.addr + BitVec.ofNat 32 (512 * k)) 512))).zip
            answers.flatten) ++
          s.wire ∧
      (∀ a, t.byteAt a = s.byteAt a)

/-- A whole TRANSMIT.MF with COUNT = 0 (42_data_transfer.md R102): only the stop sequence, here with a card that is
ready after `front` busy bytes and before any tick. -/
def Obligations.TransmitMFWithNoBlockOnlyStops : Prop :=
  ∀ (s : State) (front rest : List Byte) (a b : Byte),
    s.phase = .decode → s.count = 0#16 → (∀ x ∈ front, x ≠ 0xFF#8) → (front = [] ∨ s.toutBusy ≠ 0#32) →
    s.card = front ++ [0xFF#8, a, b] ++ rest →
    execRun .transmitMF (front.length + 7) s =
      .next
        (({ s.afterExchanges (List.replicate (front.length + 1) 0xFF#8 ++ [0xFD#8, 0xFF#8]) with
            t0 := s.ticks
            xfer := 0#16
            status := { s.status with needsCheck := true, stopped := true } } : State).completedWith .noError .ok)

/-- What a step of the TRANSMIT operations leaves unchanged, whatever its position (42_data_transfer.md R100): memory,
the command registers, CRC16_RX, CRC7 and the chip select. -/
def Obligations.WriteOperationsFrame : Prop :=
  ∀ (i : Instr) (multi final : Bool) (s t : State), writeOf i = some (multi, final) → exec i s = .next t →
    (∀ a, t.byteAt a = s.byteAt a) ∧
    t.resp = s.resp ∧ t.respx = s.respx ∧ t.crc7 = s.crc7 ∧ t.crc16Rx = s.crc16Rx ∧ t.attempt = s.attempt ∧
    t.cs = s.cs ∧ t.status.attempts = s.status.attempts ∧ t.status.derr = s.status.derr ∧
    ((∀ k, s.phase ≠ .send k .response) → s.phase ≠ .clearXfer →
      t.addr = s.addr ∧ t.xfer = s.xfer ∧ t.dtoken = s.dtoken)

/-- "the byte-address delta" (10_state.md R15, 42_data_transfer.md R103 item 2): at every step after the one that clears
XFER, and so at the completion, ADDR is the first ADDR plus the block length times XFER, modulo 2^32. -/
def Obligations.AddrDeltaIsBlocksTransferred : Prop :=
  ∀ (i : Instr) (bytes : Word) (n : Nat) (s t : State),
    blockBytes i = some bytes → legalOp i s.count = true → s.phase = .decode →
    execRun i (n + 2) s = .next t → t.addr = s.addr + bytes * t.xfer.setWidth 32

/-! ## Bus control -/

/-- SELECT, DESELECT and RESYNC (43_bus_control.md R105, R106, R107): `cs` and its event, even when `cs` is already that
value; RESYNC is `C(0) X(0, FF, rx) C(1)` and ends selected whatever `cs` was; nothing else changes. -/
def Obligations.ChipSelectOperationsDriveTheLine : Prop :=
  ∀ s : State,
    (s.phase = .chipSelect →
      exec .select s = .next { s with cs := true, wire := .cs true :: s.wire, phase := .finish .noError .ok } ∧
      exec .deselect s = .next { s with cs := false, wire := .cs false :: s.wire, phase := .finish .noError .ok }) ∧
    (s.phase = .decode →
      execRun .select 3 s =
        .next (({ s with cs := true, wire := .cs true :: s.wire } : State).completedWith .noError .ok) ∧
      execRun .deselect 3 s =
        .next (({ s with cs := false, wire := .cs false :: s.wire } : State).completedWith .noError .ok) ∧
      execRun .resync 5 s =
        .next
          (({ s with
              cs := true
              wire := .cs true :: .xchg false 0xFF#8 s.answer :: .cs false :: s.wire
              card := s.card.tail
              draws := s.draws + 1 } : State).completedWith .noError .ok)) ∧
    (s.phase = .resync .low →
      exec .resync s = .next { s with cs := false, wire := .cs false :: s.wire, phase := .resync .clock }) ∧
    (s.phase = .resync .clock → exec .resync s = .next { s.exchange 0xFF#8 with phase := .resync .high }) ∧
    (s.phase = .resync .high →
      exec .resync s = .next { s with cs := true, wire := .cs true :: s.wire, phase := .finish .noError .ok })

/-- IDLE (43_bus_control.md R108): one exchange of 0xFF a step, N of them in all, `cs` as it was, nothing else. -/
def Obligations.IdleExchangesNBytes : Prop :=
  ∀ (n : BitVec 11) (s : State),
    (∀ k, s.phase = .idleByte k →
      exec (.idle n) s =
        .next
          { s.exchange 0xFF#8 with
            phase := if k + 1 < n.toNat then .idleByte (k + 1) else .finish .noError .ok }) ∧
    ((Instr.idle n).wf = true → s.phase = .decode →
      execRun (.idle n) (n.toNat + 2) s =
        .next ((s.afterExchanges (List.replicate n.toNat 0xFF#8)).completedWith .noError .ok))

/-- One exchange of WAIT_READY and a whole one (43_bus_control.md R104, 10_state.md R28): the predicate before the
limit; a card that is ready after `front` busy bytes and before any tick ends it OK; with TOUT_BUSY = 0 it is a single
probe. -/
def Obligations.WaitReadyWaitsForTheCard : Prop :=
  ∀ s : State,
    (∀ wp, s.phase = .waitReady wp →
      let t0 := if wp = .first then s.ticks else s.t0
      exec .waitReady s =
        .next
          { s.exchange 0xFF#8 with
            t0 := t0
            phase :=
              if s.answer = 0xFF#8 then .finish .noError .ok
              else if s.toutBusy.toNat ≤ (s.ticks - t0).toNat then .finish .onDrive .timeout
              else .waitReady .again }) ∧
    (∀ front rest, s.phase = .decode → (∀ b ∈ front, b ≠ 0xFF#8) → (front = [] ∨ s.toutBusy ≠ 0#32) →
      s.card = front ++ [0xFF#8] ++ rest →
      execRun .waitReady (front.length + 3) s =
        .next
          (({ s.afterExchanges (List.replicate (front.length + 1) 0xFF#8) with t0 := s.ticks } :
              State).completedWith .noError .ok)) ∧
    (s.phase = .decode → s.toutBusy = 0#32 → s.answer ≠ 0xFF#8 →
      execRun .waitReady 3 s =
        .next (({ s.exchange 0xFF#8 with t0 := s.ticks } : State).completedWith .onDrive .timeout))

/-- What a step of the CRC and bus-control operations leaves unchanged, whatever its position (10_state.md R29, 40_crc.md
R71 to R73, 43_bus_control.md): memory and every register but the CRC registers of a CRC operation; a CRC operation is
off the wire and leaves the chip select, the card and `t0` alone at every position. -/
def Obligations.CrcAndBusOperationsFrame : Prop :=
  ∀ (i : Instr) (s t : State),
    commandOf i = none → packetLength i = none → writeOf i = none → exec i s = .next t →
    (∀ a, t.byteAt a = s.byteAt a) ∧
    t.addr = s.addr ∧ t.xfer = s.xfer ∧ t.resp = s.resp ∧ t.respx = s.respx ∧ t.dtoken = s.dtoken ∧
    t.crc16Rx = s.crc16Rx ∧ t.attempt = s.attempt ∧ t.status.derr = s.status.derr ∧
    t.status.attempts = s.status.attempts ∧ t.status.retryable = s.status.retryable ∧
    t.status.needsCheck = s.status.needsCheck ∧ t.status.stopped = s.status.stopped ∧
    (((∃ c7 c16, i = .crcClear c7 c16) ∨ (∃ b, i = .crc7Feed b) ∨ (∃ b, i = .crc16Feed b)) →
      t.wire = s.wire ∧ t.cs = s.cs ∧ t.card = s.card ∧ t.draws = s.draws ∧ t.t0 = s.t0) ∧
    ((∀ c7 c16, i ≠ .crcClear c7 c16) → (∀ b, i ≠ .crc7Feed b) → t.crc7 = s.crc7) ∧
    ((∀ c7 c16, i ≠ .crcClear c7 c16) → (∀ b, i ≠ .crc16Feed b) → t.crc16 = s.crc16)

/-! ## Completion -/

/-- `Finish(err, cls)` (60_exceptions.md R109): ERR, CLASS, BUSY, DONE and phase, nothing else, for every operation; and
after it the Engine's turn changes nothing (20_memory.md R41; the model's reading of "no step", assumption log 3). -/
def Obligations.FinishWritesTheRecordAndStops : Prop :=
  ∀ (i : Instr) (err : ErrCode) (cls : CompletionClass) (s : State), s.phase = .finish err cls →
    exec i s = .next (s.completedWith err cls) ∧
    engineTurn (s.completedWith err cls) = .next (s.completedWith err cls)

/-- Every completion is a row of 60_exceptions.md R114, with its RETRYABLE and with STOPPED and NEEDS_CHECK as the rules
of the operations say (42_data_transfer.md R95, R96, R99 to R103). -/
def Obligations.EveryCompletionIsInTheTable : Prop :=
  ∀ s t : State, s.inv = true → step s = .next t → s.status.busy = true → t.status.busy = false →
    s.sched.head? = some .reset ∨
    (t.status.err = .illegalOp ∧ t.status.cls = .illegal ∧ t.status.retryable = false ∧ s.phase = .decode) ∨
    (∃ i, decode s.op = .ok i ∧ (t.status.err, t.status.cls) ∈ completions i ∧
      t.status.retryable = retryablePair t.status.err t.status.cls ∧
      t.status.stopped = stoppedAt i t.status.err ∧
      t.status.needsCheck = needsCheckAt i t.status.err t.status.cls s.count ∧
      xferAt i t.status.err t = true)

/-- DONE rises only in an Engine step that finishes an operation: at a `finish` position or at the decode of an illegal
word (10_state.md R12, 60_exceptions.md R109). -/
def Obligations.DoneRisesOnlyAtFinish : Prop :=
  ∀ s t : State, step s = .next t → s.status.done = false → t.status.done = true →
    (s.sched = [] ∨ s.sched.head? = some .engine) ∧ t.phase = .idle ∧
      ((∃ err cls, s.phase = .finish err cls ∧ t.status.err = err ∧ t.status.cls = cls) ∨
        (s.phase = .decode ∧ t.status.err = .illegalOp ∧ t.status.cls = .illegal))

/-- The interrupt output (60_exceptions.md R117): the level DONE & IE, high at a `Finish` exactly when IE is 1, low after
the host clears DONE, clears IE, writes the next operation word, and after reset. -/
def Obligations.IrqFollowsDoneAndEnable : Prop :=
  ∀ (s : State) (w : Word) (rest : List Turn),
    s.irq = (s.status.done && s.ctrl.ie) ∧
    (∀ i t err cls, s.phase = .finish err cls → exec i s = .next t → t.irq = s.ctrl.ie) ∧
    (∀ t, s.sched = .host (.regWrite .word 0x04#32 w) :: rest → w.getLsbD 1 = true → step s = .next t →
      t.irq = false) ∧
    (∀ t, s.sched = .host (.regWrite .word 0x00#32 w) :: rest → s.status.busy = false → step s = .next t →
      t.irq = (s.status.done && w.getLsbD 0)) ∧
    (∀ t, s.sched = .host (.regWrite .word 0x08#32 w) :: rest → s.status.busy = false → step s = .next t →
      t.irq = false) ∧
    (∀ t, s.sched = .reset :: rest → step s = .next t → t.irq = false)

/-! ## The host's accesses -/

/-- A host write (10_state.md R23) and the acceptance of an operation word (R24), by R23's offsets and in R23's order:
STATUS first, then BUSY, then the slot; every register with its reserved bits forced to 0. -/
def Obligations.HostWriteFollowsItsRule : Prop :=
  ∀ (s : State) (o w : Word) (rest : List Turn), s.sched = .host (.regWrite .word o w) :: rest →
    let s₁ : State := { s with sched := rest }
    (o = 0x04#32 →
      step s =
        .next
          { s₁ with
            status :=
              { s.status with
                done := if w.getLsbD 1 then false else s.status.done
                rej := if w.getLsbD 2 then false else s.status.rej } }) ∧
    (o.toNat % 4 = 0 → o.toNat ≤ 0x3C → o ≠ 0x04#32 → s.status.busy = true →
      step s = .next { s₁ with status := { s.status with rej := true } }) ∧
    (s.status.busy = false →
      (o = 0x08#32 →
        step s =
          .next
            { s₁ with
              op := w
              status :=
                { busy := true, done := false, rej := s.status.rej, err := .noError, cls := .ok,
                  retryable := false, needsCheck := false, stopped := false, derr := 0#4, attempts := 0#4 }
              phase := .decode }) ∧
      (o = 0x00#32 → step s = .next { s₁ with ctrl := { ie := w.getLsbD 0, cmdRetry := w.extractLsb' 4 4 } }) ∧
      (o = 0x0C#32 → step s = .next { s₁ with arg := w }) ∧
      (o = 0x10#32 → step s = .next { s₁ with addr := w }) ∧
      (o = 0x14#32 → step s = .next { s₁ with count := w.extractLsb' 0 16 }) ∧
      (o = 0x34#32 → step s = .next { s₁ with toutRead := w }) ∧
      (o = 0x38#32 → step s = .next { s₁ with toutBusy := w }) ∧
      (o ∈ [0x18#32, 0x1C#32, 0x20#32, 0x24#32, 0x28#32, 0x2C#32, 0x30#32, 0x3C#32] → step s = .next s₁))

/-- A host read (10_state.md R22) of each of the sixteen offsets of R10: the register's value to the host (kept in
`readData`, the model's choice of assumption log 9) and no side effect; every reserved bit reads 0 and each field of CTRL
and STATUS stands in its bits (R11, R12, R16 to R20). -/
def Obligations.HostReadReturnsTheRegister : Prop :=
  ∀ (s : State) (o : Word) (rest : List Turn), s.sched = .host (.regRead .word o) :: rest →
    let got : Word → Prop := fun v => step s = .next { s with sched := rest, readData := v }
    (o = 0x00#32 →
      ∃ v, got v ∧ v &&& 0xFFFFFF0E#32 = 0#32 ∧ v.getLsbD 0 = s.ctrl.ie ∧ v.extractLsb' 4 4 = s.ctrl.cmdRetry) ∧
    (o = 0x04#32 →
      ∃ v, got v ∧ v &&& 0xFF00C000#32 = 0#32 ∧ v.getLsbD 0 = s.status.busy ∧ v.getLsbD 1 = s.status.done ∧
        v.getLsbD 2 = s.status.rej ∧ v.getLsbD 3 = s.cs ∧ v.extractLsb' 4 4 = s.status.err.code ∧
        v.extractLsb' 8 3 = s.status.cls.code ∧ v.getLsbD 11 = s.status.retryable ∧
        v.getLsbD 12 = s.status.needsCheck ∧ v.getLsbD 13 = s.status.stopped ∧
        v.extractLsb' 16 4 = s.status.derr ∧ v.extractLsb' 20 4 = s.status.attempts) ∧
    (o = 0x08#32 → got s.op) ∧ (o = 0x0C#32 → got s.arg) ∧ (o = 0x10#32 → got s.addr) ∧
    (o = 0x14#32 → got (0#16 ++ s.count)) ∧ (o = 0x18#32 → got (0#16 ++ s.xfer)) ∧
    (o = 0x1C#32 → got (0#24 ++ s.resp)) ∧ (o = 0x20#32 → got s.respx) ∧ (o = 0x24#32 → got (0#24 ++ s.dtoken)) ∧
    (o = 0x28#32 → got (0#25 ++ s.crc7)) ∧ (o = 0x2C#32 → got (0#16 ++ s.crc16)) ∧
    (o = 0x30#32 → got (0#16 ++ s.crc16Rx)) ∧ (o = 0x34#32 → got s.toutRead) ∧ (o = 0x38#32 → got s.toutBusy) ∧
    (o = 0x3C#32 → got 0#32)

/-- Register accesses that have no meaning are refused, all others are answered (20_memory.md R32); an access by bus
address is the access at its offset from `SDSPI_BASE`, whatever the base is (R44). The name of the refusal is that of
assumption log 12, the offset modulo 2^32 is that of log 11. The host's accesses to host memory always have one (R31; that
they reach every address is assumption log 8): a read changes nothing but what it returns (log 9), a write changes one
byte. -/
def Obligations.OnlyAlignedWordAccessesHaveAMeaning : Prop :=
  ∀ (s : State) (size : AccessSize) (o w : Word),
    ((size = .word ∧ o.toNat % 4 = 0 ∧ o.toNat ≤ 0x3C) →
      (∃ t, hostStep (.regRead size o) s = .next t) ∧ (∃ t, hostStep (.regWrite size o w) s = .next t)) ∧
    (¬(size = .word ∧ o.toNat % 4 = 0 ∧ o.toNat ≤ 0x3C) →
      hostStep (.regRead size o) s = .refused .undefinedRegisterAccess ∧
      hostStep (.regWrite size o w) s = .refused .undefinedRegisterAccess) ∧
    hostStep (.busRead size (Config.sdspiBase + o)) s = hostStep (.regRead size o) s ∧
    hostStep (.busWrite size (Config.sdspiBase + o) w) s = hostStep (.regWrite size o w) s ∧
    (∀ a, hostStep (.memRead a) s = .next { s with readData := 0#24 ++ s.byteAt a }) ∧
    (∀ (a : Word) (v : Byte), ∃ t, hostStep (.memWrite a v) s = .next t ∧ ({ t with mem := s.mem } : State) = s ∧
      (s.mem.wf = true → t.byteAt a = v) ∧ ∀ b, b ≠ a → t.byteAt b = s.byteAt b)

/-! ## The whole machine -/

/-- A step at the Engine's turn is `exec` of the operation decoded from OP (10_state.md R13, R26), with its turn taken
off the schedule; an operation stuck at an unbacked address stays (20_memory.md R36, assumption log 6), and an idle
engine does nothing, whatever OP holds (R41, assumption log 3). -/
def Obligations.StepRunsTheDecodedOperation : Prop :=
  ∀ (s : State) (rest : List Turn), ((s.sched = [] ∧ rest = []) ∨ s.sched = .engine :: rest) →
    let s₁ : State := { s with sched := rest }
    (s.phase = .idle → step s = .next s₁) ∧
    (∀ i, decode s.op = .ok i →
      (∀ t, exec i s₁ = .next t → step s = .next t) ∧
      (exec i s₁ = .fault .unbackedAccess → step s = .next s₁) ∧
      (∀ r, exec i s₁ = .refused r → step s = .refused r))

/-- With no other agent's turn listed, `k` steps of the machine are `k` steps of the operation in OP, its completion
and the idle steps after it included (assumption logs 2 and 3). -/
def Obligations.MachineRunIsExecRun : Prop :=
  ∀ (i : Instr) (k : Nat) (s t : State),
    s.sched = [] → decode s.op = .ok i → execRun i k s = .next t → machineRun k s = .next t

/-- The invariant holds after reset (70_reset_and_hazards.md R121). -/
def Obligations.ResetMeetsTheInvariant : Prop := State.reset.inv = true

/-- Every step of every agent keeps the invariant (`State.inv` in Safety.lean: canonical memory, BUSY exactly when not
IDLE, the record of R114, a busy engine at a position of its operation with XFER and ATTEMPTS as the rules say). -/
def Obligations.EveryStepKeepsTheInvariant : Prop :=
  ∀ s t : State, s.inv = true → step s = .next t → t.inv = true

/-- From every state that meets the invariant the Engine has a step, and the only steps without a meaning are the
register accesses of 20_memory.md R32; positions outside the operation's pseudocode, which the model refuses (assumption
log 15), do not arise. Where 20_memory.md R36 and R41 give the engine no step, at an unbacked address and while idle, the
model's step is the one that changes nothing (assumption logs 6 and 3). -/
def Obligations.NothingElseIsRefused : Prop :=
  ∀ s : State, s.inv = true →
    (∃ t, engineTurn s = .next t) ∧
    (∀ r, step s = .refused r → r = .undefinedRegisterAccess ∧ ∃ a rest, s.sched = .host a :: rest) ∧
    (∀ r, step s ≠ .fault r)

/-- What no operation writes, whatever its position: CTRL, OP, ARG, COUNT, the two limits, REJ and `ticks` (10_state.md
R13, R14, R16, R23, R27); and the rest of the record (BUSY, DONE, ERR, CLASS) moves only at `Finish` or in the decode
step. -/
def Obligations.OperationsNeverWriteTheHostsRegisters : Prop :=
  ∀ (i : Instr) (s t : State), exec i s = .next t →
    t.ctrl = s.ctrl ∧ t.op = s.op ∧ t.arg = s.arg ∧ t.count = s.count ∧ t.toutRead = s.toutRead ∧
    t.toutBusy = s.toutBusy ∧ t.ticks = s.ticks ∧ t.status.rej = s.status.rej ∧ t.holes = s.holes ∧
    t.sched = s.sched ∧ t.readData = s.readData ∧
    (s.phase ≠ .decode → (∀ err cls, s.phase ≠ .finish err cls) →
      t.status.busy = s.status.busy ∧ t.status.done = s.status.done ∧ t.status.err = s.status.err ∧
        t.status.cls = s.status.cls)

/-- One step puts at most one event on the wire trace (00_scope.md R5), and only an Engine step of a busy engine puts
one (20_memory.md R41): an idle engine, a tick, the host and the start of an exchange (assumption log 20) put none; `cs`
changes with its event `C` or at reset (R40). -/
def Obligations.AtMostOneWireEventAStep : Prop :=
  ∀ s t : State, step s = .next t → s.sched.head? ≠ some .reset →
    ((t.wire = s.wire ∧ t.cs = s.cs) ∨
      (∃ tx, t.wire = .xchg s.cs tx s.answer :: s.wire ∧ t.cs = s.cs) ∨ (∃ v, t.wire = .cs v :: s.wire ∧ t.cs = v)) ∧
    (s.phase = .idle → t.wire = s.wire ∧ t.cs = s.cs) ∧
    ((s.sched.head? = some .tick ∨ s.sched.head? = some .exchangeStarts ∨ ∃ a, s.sched.head? = some (.host a)) →
      t.wire = s.wire ∧ t.cs = s.cs)

/-- A timebase step adds 1 to `ticks` modulo 2^32 and nothing else (10_state.md R27), and an operation that is not at a
wait does not depend on it. How a wait may time out after a single exchange, whatever its limit (R28, 70_reset_and_hazards.md
R131, 93_implementation_defined.md I18; the turn is the model's, assumption log 20): the start of its first exchange latches
`t0` and only that, and with `n` ticks before that exchange's end, `n` at least the limit, the first byte ends the wait. -/
def Obligations.TicksMatterOnlyToWaits : Prop :=
  (∀ (s : State) (rest : List Turn), s.sched = .tick :: rest →
    step s = .next { s with ticks := s.ticks + 1#32, sched := rest }) ∧
  (∀ (i : Instr) (s t : State), waiting s.phase = false → exec i s = .next t →
    exec i { s with ticks := s.ticks + 1#32 } = .next { t with ticks := t.ticks + 1#32 }) ∧
  (∀ (s : State) (rest : List Turn), s.sched = .exchangeStarts :: rest →
    let begun : Phase → State := fun p => { s with t0 := s.ticks, phase := p, sched := rest }
    (∀ cls, s.phase = .command (.busy .first cls) → step s = .next (begun (.command (.busy .again cls)))) ∧
    (∀ f cls, s.phase = .autoStop f (.busy .first cls) → step s = .next (begun (.autoStop f (.busy .again cls)))) ∧
    (∀ k, s.phase = .recv k (.token .first) → step s = .next (begun (.recv k (.token .again)))) ∧
    (∀ k, s.phase = .send k (.ready .first) → step s = .next (begun (.send k (.ready .again)))) ∧
    (∀ f, s.phase = .stop f (.ready .first) → step s = .next (begun (.stop f (.ready .again)))) ∧
    (s.phase = .waitReady .first → step s = .next (begun (.waitReady .again))) ∧
    (waiting s.phase = false → step s = .next { s with sched := rest })) ∧
  (∀ (s : State) (n : Nat) (rest : List Turn), n < 2 ^ 32 →
    s.sched = .exchangeStarts :: (List.replicate n .tick ++ .engine :: rest) →
    let late : State := { s.exchange 0xFF#8 with t0 := s.ticks, ticks := s.ticks + BitVec.ofNat 32 n, sched := rest }
    (s.phase = .waitReady .first → decode s.op = .ok .waitReady → s.answer ≠ 0xFF#8 → s.toutBusy.toNat ≤ n →
      machineRun (n + 2) s = .next { late with phase := .finish .onDrive .timeout }) ∧
    (∀ k, s.phase = .recv k (.token .first) → decode s.op = .ok .receive → s.answer = 0xFF#8 → s.toutRead.toNat ≤ n →
      machineRun (n + 2) s =
        .next { late with dtoken := 0xFF#8, phase := .recvFailed ⟨.read, .timeout, true⟩ }))

/-- "the engine never checks `cs`" (20_memory.md R39): with another chip select an operation does the same but for `cs`
and the wire trace. -/
def Obligations.OperationsDoNotCheckChipSelect : Prop :=
  ∀ (i : Instr) (s t : State) (v : Bool), exec i s = .next t →
    ∃ t', exec i { s with cs := v } = .next t' ∧
      ({ t' with cs := t.cs, wire := t.wire } : State) = t

/-- Every wait ends (10_state.md R28, 70_reset_and_hazards.md R122): when the Engine and the timebase take turns, a wait
is left after finitely many steps, whatever the card answers. The schedule is an input of the model (assumption log 2). -/
def Obligations.EveryWaitEnds : Prop :=
  ∀ s : State, s.inv = true → waiting s.phase = true →
    ∃ n k t, machineRun k { s with sched := (List.replicate n [Turn.engine, Turn.tick]).flatten } = .next t ∧
      waiting t.phase = false

/-- An engine before an unbacked address is stuck (20_memory.md R36): the operation has no step there, and whatever the
agents do but reset it stays before that address with BUSY = 1 (how the model keeps it there: assumption log 6). -/
def Obligations.UnbackedAccessLeavesTheEngineStuck : Prop :=
  ∀ (s t : State) (a : Word), s.stuckAt a →
    (∃ i, decode s.op = .ok i ∧ exec i s = .fault .unbackedAccess) ∧
    (s.sched.head? ≠ some .reset → step s = .next t → t.stuckAt a)

/-- The values right after reset (70_reset_and_hazards.md R121), as the host reads them. -/
def Obligations.ResetValuesAreTheSpecs : Prop :=
  readSlot .ctrl State.reset = 0x00000030#32 ∧
  (∀ sl, sl ∉ [Slot.ctrl, .toutRead, .toutBusy] → readSlot sl State.reset = 0#32) ∧
  readSlot .toutRead State.reset = 100#32 ∧ readSlot .toutBusy State.reset = 500#32 ∧
  State.reset.phase = .idle ∧ State.reset.cs = false ∧ State.reset.ticks = 0#32 ∧ State.reset.t0 = 0#32 ∧
  State.reset.attempt = 0#4 ∧ State.reset.irq = false ∧ State.reset.wire = []

/-- The platform's reset at any point (70_reset_and_hazards.md R120): every register and the internal state to its reset
value, an operation abandoned, no wire event, host memory as it was. -/
def Obligations.ResetAbandonsTheOperation : Prop :=
  ∀ (s : State) (rest : List Turn), s.sched = .reset :: rest →
    ∃ t, step s = .next t ∧
      (∀ sl, readSlot sl t = readSlot sl State.reset) ∧
      t.phase = .idle ∧ t.cs = false ∧ t.ticks = 0#32 ∧ t.t0 = 0#32 ∧ t.attempt = 0#4 ∧ t.wire = [] ∧
      t.irq = false ∧ (∀ a, t.byteAt a = s.byteAt a) ∧ t.sched = rest
end

