-- ==== Sys2Proof/Laws/State.lean ====
section
/-! SUPPORT. One lemma per field and update of the state, so that no proof unfolds a record update. -/

namespace Sys2Proof.Machine

/-! `State.exchange` (20_memory.md R39) -/

@[simp] theorem State.exchange_ctrl (s : State) (tx : Byte) : (s.exchange tx).ctrl = s.ctrl := rfl
@[simp] theorem State.exchange_status (s : State) (tx : Byte) : (s.exchange tx).status = s.status := rfl
@[simp] theorem State.exchange_op (s : State) (tx : Byte) : (s.exchange tx).op = s.op := rfl
@[simp] theorem State.exchange_arg (s : State) (tx : Byte) : (s.exchange tx).arg = s.arg := rfl
@[simp] theorem State.exchange_addr (s : State) (tx : Byte) : (s.exchange tx).addr = s.addr := rfl
@[simp] theorem State.exchange_count (s : State) (tx : Byte) : (s.exchange tx).count = s.count := rfl
@[simp] theorem State.exchange_xfer (s : State) (tx : Byte) : (s.exchange tx).xfer = s.xfer := rfl
@[simp] theorem State.exchange_resp (s : State) (tx : Byte) : (s.exchange tx).resp = s.resp := rfl
@[simp] theorem State.exchange_respx (s : State) (tx : Byte) : (s.exchange tx).respx = s.respx := rfl
@[simp] theorem State.exchange_dtoken (s : State) (tx : Byte) : (s.exchange tx).dtoken = s.dtoken := rfl
@[simp] theorem State.exchange_crc7 (s : State) (tx : Byte) : (s.exchange tx).crc7 = s.crc7 := rfl
@[simp] theorem State.exchange_crc16 (s : State) (tx : Byte) : (s.exchange tx).crc16 = s.crc16 := rfl
@[simp] theorem State.exchange_crc16Rx (s : State) (tx : Byte) : (s.exchange tx).crc16Rx = s.crc16Rx := rfl
@[simp] theorem State.exchange_toutRead (s : State) (tx : Byte) : (s.exchange tx).toutRead = s.toutRead := rfl
@[simp] theorem State.exchange_toutBusy (s : State) (tx : Byte) : (s.exchange tx).toutBusy = s.toutBusy := rfl
@[simp] theorem State.exchange_phase (s : State) (tx : Byte) : (s.exchange tx).phase = s.phase := rfl
@[simp] theorem State.exchange_cs (s : State) (tx : Byte) : (s.exchange tx).cs = s.cs := rfl
@[simp] theorem State.exchange_ticks (s : State) (tx : Byte) : (s.exchange tx).ticks = s.ticks := rfl
@[simp] theorem State.exchange_t0 (s : State) (tx : Byte) : (s.exchange tx).t0 = s.t0 := rfl
@[simp] theorem State.exchange_attempt (s : State) (tx : Byte) : (s.exchange tx).attempt = s.attempt := rfl
@[simp] theorem State.exchange_mem (s : State) (tx : Byte) : (s.exchange tx).mem = s.mem := rfl
@[simp] theorem State.exchange_wire (s : State) (tx : Byte) : (s.exchange tx).wire = .xchg s.cs tx s.answer :: s.wire := rfl
@[simp] theorem State.exchange_holes (s : State) (tx : Byte) : (s.exchange tx).holes = s.holes := rfl
@[simp] theorem State.exchange_card (s : State) (tx : Byte) : (s.exchange tx).card = s.card.tail := rfl
@[simp] theorem State.exchange_draws (s : State) (tx : Byte) : (s.exchange tx).draws = s.draws + 1 := rfl
@[simp] theorem State.exchange_sched (s : State) (tx : Byte) : (s.exchange tx).sched = s.sched := rfl
@[simp] theorem State.exchange_readData (s : State) (tx : Byte) : (s.exchange tx).readData = s.readData := rfl

/-! `State.driveCs` (20_memory.md R40) -/

@[simp] theorem State.driveCs_ctrl (s : State) (v : Bool) : (s.driveCs v).ctrl = s.ctrl := rfl
@[simp] theorem State.driveCs_status (s : State) (v : Bool) : (s.driveCs v).status = s.status := rfl
@[simp] theorem State.driveCs_op (s : State) (v : Bool) : (s.driveCs v).op = s.op := rfl
@[simp] theorem State.driveCs_arg (s : State) (v : Bool) : (s.driveCs v).arg = s.arg := rfl
@[simp] theorem State.driveCs_addr (s : State) (v : Bool) : (s.driveCs v).addr = s.addr := rfl
@[simp] theorem State.driveCs_count (s : State) (v : Bool) : (s.driveCs v).count = s.count := rfl
@[simp] theorem State.driveCs_xfer (s : State) (v : Bool) : (s.driveCs v).xfer = s.xfer := rfl
@[simp] theorem State.driveCs_resp (s : State) (v : Bool) : (s.driveCs v).resp = s.resp := rfl
@[simp] theorem State.driveCs_respx (s : State) (v : Bool) : (s.driveCs v).respx = s.respx := rfl
@[simp] theorem State.driveCs_dtoken (s : State) (v : Bool) : (s.driveCs v).dtoken = s.dtoken := rfl
@[simp] theorem State.driveCs_crc7 (s : State) (v : Bool) : (s.driveCs v).crc7 = s.crc7 := rfl
@[simp] theorem State.driveCs_crc16 (s : State) (v : Bool) : (s.driveCs v).crc16 = s.crc16 := rfl
@[simp] theorem State.driveCs_crc16Rx (s : State) (v : Bool) : (s.driveCs v).crc16Rx = s.crc16Rx := rfl
@[simp] theorem State.driveCs_toutRead (s : State) (v : Bool) : (s.driveCs v).toutRead = s.toutRead := rfl
@[simp] theorem State.driveCs_toutBusy (s : State) (v : Bool) : (s.driveCs v).toutBusy = s.toutBusy := rfl
@[simp] theorem State.driveCs_phase (s : State) (v : Bool) : (s.driveCs v).phase = s.phase := rfl
@[simp] theorem State.driveCs_cs (s : State) (v : Bool) : (s.driveCs v).cs = v := rfl
@[simp] theorem State.driveCs_ticks (s : State) (v : Bool) : (s.driveCs v).ticks = s.ticks := rfl
@[simp] theorem State.driveCs_t0 (s : State) (v : Bool) : (s.driveCs v).t0 = s.t0 := rfl
@[simp] theorem State.driveCs_attempt (s : State) (v : Bool) : (s.driveCs v).attempt = s.attempt := rfl
@[simp] theorem State.driveCs_mem (s : State) (v : Bool) : (s.driveCs v).mem = s.mem := rfl
@[simp] theorem State.driveCs_wire (s : State) (v : Bool) : (s.driveCs v).wire = .cs v :: s.wire := rfl
@[simp] theorem State.driveCs_holes (s : State) (v : Bool) : (s.driveCs v).holes = s.holes := rfl
@[simp] theorem State.driveCs_card (s : State) (v : Bool) : (s.driveCs v).card = s.card := rfl
@[simp] theorem State.driveCs_draws (s : State) (v : Bool) : (s.driveCs v).draws = s.draws := rfl
@[simp] theorem State.driveCs_sched (s : State) (v : Bool) : (s.driveCs v).sched = s.sched := rfl
@[simp] theorem State.driveCs_readData (s : State) (v : Bool) : (s.driveCs v).readData = s.readData := rfl

/-! `State.setPhase` (10_state.md R26) -/

@[simp] theorem State.setPhase_ctrl (s : State) (p : Phase) : (s.setPhase p).ctrl = s.ctrl := rfl
@[simp] theorem State.setPhase_status (s : State) (p : Phase) : (s.setPhase p).status = s.status := rfl
@[simp] theorem State.setPhase_op (s : State) (p : Phase) : (s.setPhase p).op = s.op := rfl
@[simp] theorem State.setPhase_arg (s : State) (p : Phase) : (s.setPhase p).arg = s.arg := rfl
@[simp] theorem State.setPhase_addr (s : State) (p : Phase) : (s.setPhase p).addr = s.addr := rfl
@[simp] theorem State.setPhase_count (s : State) (p : Phase) : (s.setPhase p).count = s.count := rfl
@[simp] theorem State.setPhase_xfer (s : State) (p : Phase) : (s.setPhase p).xfer = s.xfer := rfl
@[simp] theorem State.setPhase_resp (s : State) (p : Phase) : (s.setPhase p).resp = s.resp := rfl
@[simp] theorem State.setPhase_respx (s : State) (p : Phase) : (s.setPhase p).respx = s.respx := rfl
@[simp] theorem State.setPhase_dtoken (s : State) (p : Phase) : (s.setPhase p).dtoken = s.dtoken := rfl
@[simp] theorem State.setPhase_crc7 (s : State) (p : Phase) : (s.setPhase p).crc7 = s.crc7 := rfl
@[simp] theorem State.setPhase_crc16 (s : State) (p : Phase) : (s.setPhase p).crc16 = s.crc16 := rfl
@[simp] theorem State.setPhase_crc16Rx (s : State) (p : Phase) : (s.setPhase p).crc16Rx = s.crc16Rx := rfl
@[simp] theorem State.setPhase_toutRead (s : State) (p : Phase) : (s.setPhase p).toutRead = s.toutRead := rfl
@[simp] theorem State.setPhase_toutBusy (s : State) (p : Phase) : (s.setPhase p).toutBusy = s.toutBusy := rfl
@[simp] theorem State.setPhase_phase (s : State) (p : Phase) : (s.setPhase p).phase = p := rfl
@[simp] theorem State.setPhase_cs (s : State) (p : Phase) : (s.setPhase p).cs = s.cs := rfl
@[simp] theorem State.setPhase_ticks (s : State) (p : Phase) : (s.setPhase p).ticks = s.ticks := rfl
@[simp] theorem State.setPhase_t0 (s : State) (p : Phase) : (s.setPhase p).t0 = s.t0 := rfl
@[simp] theorem State.setPhase_attempt (s : State) (p : Phase) : (s.setPhase p).attempt = s.attempt := rfl
@[simp] theorem State.setPhase_mem (s : State) (p : Phase) : (s.setPhase p).mem = s.mem := rfl
@[simp] theorem State.setPhase_wire (s : State) (p : Phase) : (s.setPhase p).wire = s.wire := rfl
@[simp] theorem State.setPhase_holes (s : State) (p : Phase) : (s.setPhase p).holes = s.holes := rfl
@[simp] theorem State.setPhase_card (s : State) (p : Phase) : (s.setPhase p).card = s.card := rfl
@[simp] theorem State.setPhase_draws (s : State) (p : Phase) : (s.setPhase p).draws = s.draws := rfl
@[simp] theorem State.setPhase_sched (s : State) (p : Phase) : (s.setPhase p).sched = s.sched := rfl
@[simp] theorem State.setPhase_readData (s : State) (p : Phase) : (s.setPhase p).readData = s.readData := rfl

/-! `State.setRetryable` (42_data_transfer.md R94) -/

@[simp] theorem State.setRetryable_ctrl (s : State) (v : Bool) : (s.setRetryable v).ctrl = s.ctrl := rfl
@[simp] theorem State.setRetryable_status (s : State) (v : Bool) : (s.setRetryable v).status = { s.status with retryable := v } := rfl
@[simp] theorem State.setRetryable_op (s : State) (v : Bool) : (s.setRetryable v).op = s.op := rfl
@[simp] theorem State.setRetryable_arg (s : State) (v : Bool) : (s.setRetryable v).arg = s.arg := rfl
@[simp] theorem State.setRetryable_addr (s : State) (v : Bool) : (s.setRetryable v).addr = s.addr := rfl
@[simp] theorem State.setRetryable_count (s : State) (v : Bool) : (s.setRetryable v).count = s.count := rfl
@[simp] theorem State.setRetryable_xfer (s : State) (v : Bool) : (s.setRetryable v).xfer = s.xfer := rfl
@[simp] theorem State.setRetryable_resp (s : State) (v : Bool) : (s.setRetryable v).resp = s.resp := rfl
@[simp] theorem State.setRetryable_respx (s : State) (v : Bool) : (s.setRetryable v).respx = s.respx := rfl
@[simp] theorem State.setRetryable_dtoken (s : State) (v : Bool) : (s.setRetryable v).dtoken = s.dtoken := rfl
@[simp] theorem State.setRetryable_crc7 (s : State) (v : Bool) : (s.setRetryable v).crc7 = s.crc7 := rfl
@[simp] theorem State.setRetryable_crc16 (s : State) (v : Bool) : (s.setRetryable v).crc16 = s.crc16 := rfl
@[simp] theorem State.setRetryable_crc16Rx (s : State) (v : Bool) : (s.setRetryable v).crc16Rx = s.crc16Rx := rfl
@[simp] theorem State.setRetryable_toutRead (s : State) (v : Bool) : (s.setRetryable v).toutRead = s.toutRead := rfl
@[simp] theorem State.setRetryable_toutBusy (s : State) (v : Bool) : (s.setRetryable v).toutBusy = s.toutBusy := rfl
@[simp] theorem State.setRetryable_phase (s : State) (v : Bool) : (s.setRetryable v).phase = s.phase := rfl
@[simp] theorem State.setRetryable_cs (s : State) (v : Bool) : (s.setRetryable v).cs = s.cs := rfl
@[simp] theorem State.setRetryable_ticks (s : State) (v : Bool) : (s.setRetryable v).ticks = s.ticks := rfl
@[simp] theorem State.setRetryable_t0 (s : State) (v : Bool) : (s.setRetryable v).t0 = s.t0 := rfl
@[simp] theorem State.setRetryable_attempt (s : State) (v : Bool) : (s.setRetryable v).attempt = s.attempt := rfl
@[simp] theorem State.setRetryable_mem (s : State) (v : Bool) : (s.setRetryable v).mem = s.mem := rfl
@[simp] theorem State.setRetryable_wire (s : State) (v : Bool) : (s.setRetryable v).wire = s.wire := rfl
@[simp] theorem State.setRetryable_holes (s : State) (v : Bool) : (s.setRetryable v).holes = s.holes := rfl
@[simp] theorem State.setRetryable_card (s : State) (v : Bool) : (s.setRetryable v).card = s.card := rfl
@[simp] theorem State.setRetryable_draws (s : State) (v : Bool) : (s.setRetryable v).draws = s.draws := rfl
@[simp] theorem State.setRetryable_sched (s : State) (v : Bool) : (s.setRetryable v).sched = s.sched := rfl
@[simp] theorem State.setRetryable_readData (s : State) (v : Bool) : (s.setRetryable v).readData = s.readData := rfl

/-! `State.setNeedsCheck` (42_data_transfer.md R99) -/

@[simp] theorem State.setNeedsCheck_ctrl (s : State) : (s.setNeedsCheck).ctrl = s.ctrl := rfl
@[simp] theorem State.setNeedsCheck_status (s : State) : (s.setNeedsCheck).status = { s.status with needsCheck := true } := rfl
@[simp] theorem State.setNeedsCheck_op (s : State) : (s.setNeedsCheck).op = s.op := rfl
@[simp] theorem State.setNeedsCheck_arg (s : State) : (s.setNeedsCheck).arg = s.arg := rfl
@[simp] theorem State.setNeedsCheck_addr (s : State) : (s.setNeedsCheck).addr = s.addr := rfl
@[simp] theorem State.setNeedsCheck_count (s : State) : (s.setNeedsCheck).count = s.count := rfl
@[simp] theorem State.setNeedsCheck_xfer (s : State) : (s.setNeedsCheck).xfer = s.xfer := rfl
@[simp] theorem State.setNeedsCheck_resp (s : State) : (s.setNeedsCheck).resp = s.resp := rfl
@[simp] theorem State.setNeedsCheck_respx (s : State) : (s.setNeedsCheck).respx = s.respx := rfl
@[simp] theorem State.setNeedsCheck_dtoken (s : State) : (s.setNeedsCheck).dtoken = s.dtoken := rfl
@[simp] theorem State.setNeedsCheck_crc7 (s : State) : (s.setNeedsCheck).crc7 = s.crc7 := rfl
@[simp] theorem State.setNeedsCheck_crc16 (s : State) : (s.setNeedsCheck).crc16 = s.crc16 := rfl
@[simp] theorem State.setNeedsCheck_crc16Rx (s : State) : (s.setNeedsCheck).crc16Rx = s.crc16Rx := rfl
@[simp] theorem State.setNeedsCheck_toutRead (s : State) : (s.setNeedsCheck).toutRead = s.toutRead := rfl
@[simp] theorem State.setNeedsCheck_toutBusy (s : State) : (s.setNeedsCheck).toutBusy = s.toutBusy := rfl
@[simp] theorem State.setNeedsCheck_phase (s : State) : (s.setNeedsCheck).phase = s.phase := rfl
@[simp] theorem State.setNeedsCheck_cs (s : State) : (s.setNeedsCheck).cs = s.cs := rfl
@[simp] theorem State.setNeedsCheck_ticks (s : State) : (s.setNeedsCheck).ticks = s.ticks := rfl
@[simp] theorem State.setNeedsCheck_t0 (s : State) : (s.setNeedsCheck).t0 = s.t0 := rfl
@[simp] theorem State.setNeedsCheck_attempt (s : State) : (s.setNeedsCheck).attempt = s.attempt := rfl
@[simp] theorem State.setNeedsCheck_mem (s : State) : (s.setNeedsCheck).mem = s.mem := rfl
@[simp] theorem State.setNeedsCheck_wire (s : State) : (s.setNeedsCheck).wire = s.wire := rfl
@[simp] theorem State.setNeedsCheck_holes (s : State) : (s.setNeedsCheck).holes = s.holes := rfl
@[simp] theorem State.setNeedsCheck_card (s : State) : (s.setNeedsCheck).card = s.card := rfl
@[simp] theorem State.setNeedsCheck_draws (s : State) : (s.setNeedsCheck).draws = s.draws := rfl
@[simp] theorem State.setNeedsCheck_sched (s : State) : (s.setNeedsCheck).sched = s.sched := rfl
@[simp] theorem State.setNeedsCheck_readData (s : State) : (s.setNeedsCheck).readData = s.readData := rfl

/-! `State.setStopped` (42_data_transfer.md R98) -/

@[simp] theorem State.setStopped_ctrl (s : State) : (s.setStopped).ctrl = s.ctrl := rfl
@[simp] theorem State.setStopped_status (s : State) : (s.setStopped).status = { s.status with stopped := true } := rfl
@[simp] theorem State.setStopped_op (s : State) : (s.setStopped).op = s.op := rfl
@[simp] theorem State.setStopped_arg (s : State) : (s.setStopped).arg = s.arg := rfl
@[simp] theorem State.setStopped_addr (s : State) : (s.setStopped).addr = s.addr := rfl
@[simp] theorem State.setStopped_count (s : State) : (s.setStopped).count = s.count := rfl
@[simp] theorem State.setStopped_xfer (s : State) : (s.setStopped).xfer = s.xfer := rfl
@[simp] theorem State.setStopped_resp (s : State) : (s.setStopped).resp = s.resp := rfl
@[simp] theorem State.setStopped_respx (s : State) : (s.setStopped).respx = s.respx := rfl
@[simp] theorem State.setStopped_dtoken (s : State) : (s.setStopped).dtoken = s.dtoken := rfl
@[simp] theorem State.setStopped_crc7 (s : State) : (s.setStopped).crc7 = s.crc7 := rfl
@[simp] theorem State.setStopped_crc16 (s : State) : (s.setStopped).crc16 = s.crc16 := rfl
@[simp] theorem State.setStopped_crc16Rx (s : State) : (s.setStopped).crc16Rx = s.crc16Rx := rfl
@[simp] theorem State.setStopped_toutRead (s : State) : (s.setStopped).toutRead = s.toutRead := rfl
@[simp] theorem State.setStopped_toutBusy (s : State) : (s.setStopped).toutBusy = s.toutBusy := rfl
@[simp] theorem State.setStopped_phase (s : State) : (s.setStopped).phase = s.phase := rfl
@[simp] theorem State.setStopped_cs (s : State) : (s.setStopped).cs = s.cs := rfl
@[simp] theorem State.setStopped_ticks (s : State) : (s.setStopped).ticks = s.ticks := rfl
@[simp] theorem State.setStopped_t0 (s : State) : (s.setStopped).t0 = s.t0 := rfl
@[simp] theorem State.setStopped_attempt (s : State) : (s.setStopped).attempt = s.attempt := rfl
@[simp] theorem State.setStopped_mem (s : State) : (s.setStopped).mem = s.mem := rfl
@[simp] theorem State.setStopped_wire (s : State) : (s.setStopped).wire = s.wire := rfl
@[simp] theorem State.setStopped_holes (s : State) : (s.setStopped).holes = s.holes := rfl
@[simp] theorem State.setStopped_card (s : State) : (s.setStopped).card = s.card := rfl
@[simp] theorem State.setStopped_draws (s : State) : (s.setStopped).draws = s.draws := rfl
@[simp] theorem State.setStopped_sched (s : State) : (s.setStopped).sched = s.sched := rfl
@[simp] theorem State.setStopped_readData (s : State) : (s.setStopped).readData = s.readData := rfl

/-! `State.setDerr` (42_data_transfer.md R92) -/

@[simp] theorem State.setDerr_ctrl (s : State) (v : BitVec 4) : (s.setDerr v).ctrl = s.ctrl := rfl
@[simp] theorem State.setDerr_status (s : State) (v : BitVec 4) : (s.setDerr v).status = { s.status with derr := v } := rfl
@[simp] theorem State.setDerr_op (s : State) (v : BitVec 4) : (s.setDerr v).op = s.op := rfl
@[simp] theorem State.setDerr_arg (s : State) (v : BitVec 4) : (s.setDerr v).arg = s.arg := rfl
@[simp] theorem State.setDerr_addr (s : State) (v : BitVec 4) : (s.setDerr v).addr = s.addr := rfl
@[simp] theorem State.setDerr_count (s : State) (v : BitVec 4) : (s.setDerr v).count = s.count := rfl
@[simp] theorem State.setDerr_xfer (s : State) (v : BitVec 4) : (s.setDerr v).xfer = s.xfer := rfl
@[simp] theorem State.setDerr_resp (s : State) (v : BitVec 4) : (s.setDerr v).resp = s.resp := rfl
@[simp] theorem State.setDerr_respx (s : State) (v : BitVec 4) : (s.setDerr v).respx = s.respx := rfl
@[simp] theorem State.setDerr_dtoken (s : State) (v : BitVec 4) : (s.setDerr v).dtoken = s.dtoken := rfl
@[simp] theorem State.setDerr_crc7 (s : State) (v : BitVec 4) : (s.setDerr v).crc7 = s.crc7 := rfl
@[simp] theorem State.setDerr_crc16 (s : State) (v : BitVec 4) : (s.setDerr v).crc16 = s.crc16 := rfl
@[simp] theorem State.setDerr_crc16Rx (s : State) (v : BitVec 4) : (s.setDerr v).crc16Rx = s.crc16Rx := rfl
@[simp] theorem State.setDerr_toutRead (s : State) (v : BitVec 4) : (s.setDerr v).toutRead = s.toutRead := rfl
@[simp] theorem State.setDerr_toutBusy (s : State) (v : BitVec 4) : (s.setDerr v).toutBusy = s.toutBusy := rfl
@[simp] theorem State.setDerr_phase (s : State) (v : BitVec 4) : (s.setDerr v).phase = s.phase := rfl
@[simp] theorem State.setDerr_cs (s : State) (v : BitVec 4) : (s.setDerr v).cs = s.cs := rfl
@[simp] theorem State.setDerr_ticks (s : State) (v : BitVec 4) : (s.setDerr v).ticks = s.ticks := rfl
@[simp] theorem State.setDerr_t0 (s : State) (v : BitVec 4) : (s.setDerr v).t0 = s.t0 := rfl
@[simp] theorem State.setDerr_attempt (s : State) (v : BitVec 4) : (s.setDerr v).attempt = s.attempt := rfl
@[simp] theorem State.setDerr_mem (s : State) (v : BitVec 4) : (s.setDerr v).mem = s.mem := rfl
@[simp] theorem State.setDerr_wire (s : State) (v : BitVec 4) : (s.setDerr v).wire = s.wire := rfl
@[simp] theorem State.setDerr_holes (s : State) (v : BitVec 4) : (s.setDerr v).holes = s.holes := rfl
@[simp] theorem State.setDerr_card (s : State) (v : BitVec 4) : (s.setDerr v).card = s.card := rfl
@[simp] theorem State.setDerr_draws (s : State) (v : BitVec 4) : (s.setDerr v).draws = s.draws := rfl
@[simp] theorem State.setDerr_sched (s : State) (v : BitVec 4) : (s.setDerr v).sched = s.sched := rfl
@[simp] theorem State.setDerr_readData (s : State) (v : BitVec 4) : (s.setDerr v).readData = s.readData := rfl

/-! `State.storeByte` (20_memory.md R35) -/

@[simp] theorem State.storeByte_ctrl (s : State) (a : Word) (v : Byte) : (s.storeByte a v).ctrl = s.ctrl := rfl
@[simp] theorem State.storeByte_status (s : State) (a : Word) (v : Byte) : (s.storeByte a v).status = s.status := rfl
@[simp] theorem State.storeByte_op (s : State) (a : Word) (v : Byte) : (s.storeByte a v).op = s.op := rfl
@[simp] theorem State.storeByte_arg (s : State) (a : Word) (v : Byte) : (s.storeByte a v).arg = s.arg := rfl
@[simp] theorem State.storeByte_addr (s : State) (a : Word) (v : Byte) : (s.storeByte a v).addr = s.addr := rfl
@[simp] theorem State.storeByte_count (s : State) (a : Word) (v : Byte) : (s.storeByte a v).count = s.count := rfl
@[simp] theorem State.storeByte_xfer (s : State) (a : Word) (v : Byte) : (s.storeByte a v).xfer = s.xfer := rfl
@[simp] theorem State.storeByte_resp (s : State) (a : Word) (v : Byte) : (s.storeByte a v).resp = s.resp := rfl
@[simp] theorem State.storeByte_respx (s : State) (a : Word) (v : Byte) : (s.storeByte a v).respx = s.respx := rfl
@[simp] theorem State.storeByte_dtoken (s : State) (a : Word) (v : Byte) : (s.storeByte a v).dtoken = s.dtoken := rfl
@[simp] theorem State.storeByte_crc7 (s : State) (a : Word) (v : Byte) : (s.storeByte a v).crc7 = s.crc7 := rfl
@[simp] theorem State.storeByte_crc16 (s : State) (a : Word) (v : Byte) : (s.storeByte a v).crc16 = s.crc16 := rfl
@[simp] theorem State.storeByte_crc16Rx (s : State) (a : Word) (v : Byte) : (s.storeByte a v).crc16Rx = s.crc16Rx := rfl
@[simp] theorem State.storeByte_toutRead (s : State) (a : Word) (v : Byte) : (s.storeByte a v).toutRead = s.toutRead := rfl
@[simp] theorem State.storeByte_toutBusy (s : State) (a : Word) (v : Byte) : (s.storeByte a v).toutBusy = s.toutBusy := rfl
@[simp] theorem State.storeByte_phase (s : State) (a : Word) (v : Byte) : (s.storeByte a v).phase = s.phase := rfl
@[simp] theorem State.storeByte_cs (s : State) (a : Word) (v : Byte) : (s.storeByte a v).cs = s.cs := rfl
@[simp] theorem State.storeByte_ticks (s : State) (a : Word) (v : Byte) : (s.storeByte a v).ticks = s.ticks := rfl
@[simp] theorem State.storeByte_t0 (s : State) (a : Word) (v : Byte) : (s.storeByte a v).t0 = s.t0 := rfl
@[simp] theorem State.storeByte_attempt (s : State) (a : Word) (v : Byte) : (s.storeByte a v).attempt = s.attempt := rfl
@[simp] theorem State.storeByte_mem (s : State) (a : Word) (v : Byte) : (s.storeByte a v).mem = s.mem.write a.toNat v := rfl
@[simp] theorem State.storeByte_wire (s : State) (a : Word) (v : Byte) : (s.storeByte a v).wire = s.wire := rfl
@[simp] theorem State.storeByte_holes (s : State) (a : Word) (v : Byte) : (s.storeByte a v).holes = s.holes := rfl
@[simp] theorem State.storeByte_card (s : State) (a : Word) (v : Byte) : (s.storeByte a v).card = s.card := rfl
@[simp] theorem State.storeByte_draws (s : State) (a : Word) (v : Byte) : (s.storeByte a v).draws = s.draws := rfl
@[simp] theorem State.storeByte_sched (s : State) (a : Word) (v : Byte) : (s.storeByte a v).sched = s.sched := rfl
@[simp] theorem State.storeByte_readData (s : State) (a : Word) (v : Byte) : (s.storeByte a v).readData = s.readData := rfl

/-! `State.finish` (60_exceptions.md R109) -/

@[simp] theorem State.finish_ctrl (s : State) (e : ErrCode) (c : CompletionClass) : (s.finish e c).ctrl = s.ctrl := rfl
@[simp] theorem State.finish_status (s : State) (e : ErrCode) (c : CompletionClass) : (s.finish e c).status = s.status.finished e c := rfl
@[simp] theorem State.finish_op (s : State) (e : ErrCode) (c : CompletionClass) : (s.finish e c).op = s.op := rfl
@[simp] theorem State.finish_arg (s : State) (e : ErrCode) (c : CompletionClass) : (s.finish e c).arg = s.arg := rfl
@[simp] theorem State.finish_addr (s : State) (e : ErrCode) (c : CompletionClass) : (s.finish e c).addr = s.addr := rfl
@[simp] theorem State.finish_count (s : State) (e : ErrCode) (c : CompletionClass) : (s.finish e c).count = s.count := rfl
@[simp] theorem State.finish_xfer (s : State) (e : ErrCode) (c : CompletionClass) : (s.finish e c).xfer = s.xfer := rfl
@[simp] theorem State.finish_resp (s : State) (e : ErrCode) (c : CompletionClass) : (s.finish e c).resp = s.resp := rfl
@[simp] theorem State.finish_respx (s : State) (e : ErrCode) (c : CompletionClass) : (s.finish e c).respx = s.respx := rfl
@[simp] theorem State.finish_dtoken (s : State) (e : ErrCode) (c : CompletionClass) : (s.finish e c).dtoken = s.dtoken := rfl
@[simp] theorem State.finish_crc7 (s : State) (e : ErrCode) (c : CompletionClass) : (s.finish e c).crc7 = s.crc7 := rfl
@[simp] theorem State.finish_crc16 (s : State) (e : ErrCode) (c : CompletionClass) : (s.finish e c).crc16 = s.crc16 := rfl
@[simp] theorem State.finish_crc16Rx (s : State) (e : ErrCode) (c : CompletionClass) : (s.finish e c).crc16Rx = s.crc16Rx := rfl
@[simp] theorem State.finish_toutRead (s : State) (e : ErrCode) (c : CompletionClass) : (s.finish e c).toutRead = s.toutRead := rfl
@[simp] theorem State.finish_toutBusy (s : State) (e : ErrCode) (c : CompletionClass) : (s.finish e c).toutBusy = s.toutBusy := rfl
@[simp] theorem State.finish_phase (s : State) (e : ErrCode) (c : CompletionClass) : (s.finish e c).phase = .idle := rfl
@[simp] theorem State.finish_cs (s : State) (e : ErrCode) (c : CompletionClass) : (s.finish e c).cs = s.cs := rfl
@[simp] theorem State.finish_ticks (s : State) (e : ErrCode) (c : CompletionClass) : (s.finish e c).ticks = s.ticks := rfl
@[simp] theorem State.finish_t0 (s : State) (e : ErrCode) (c : CompletionClass) : (s.finish e c).t0 = s.t0 := rfl
@[simp] theorem State.finish_attempt (s : State) (e : ErrCode) (c : CompletionClass) : (s.finish e c).attempt = s.attempt := rfl
@[simp] theorem State.finish_mem (s : State) (e : ErrCode) (c : CompletionClass) : (s.finish e c).mem = s.mem := rfl
@[simp] theorem State.finish_wire (s : State) (e : ErrCode) (c : CompletionClass) : (s.finish e c).wire = s.wire := rfl
@[simp] theorem State.finish_holes (s : State) (e : ErrCode) (c : CompletionClass) : (s.finish e c).holes = s.holes := rfl
@[simp] theorem State.finish_card (s : State) (e : ErrCode) (c : CompletionClass) : (s.finish e c).card = s.card := rfl
@[simp] theorem State.finish_draws (s : State) (e : ErrCode) (c : CompletionClass) : (s.finish e c).draws = s.draws := rfl
@[simp] theorem State.finish_sched (s : State) (e : ErrCode) (c : CompletionClass) : (s.finish e c).sched = s.sched := rfl
@[simp] theorem State.finish_readData (s : State) (e : ErrCode) (c : CompletionClass) : (s.finish e c).readData = s.readData := rfl

/-! `State.accept` (10_state.md R24) -/

@[simp] theorem State.accept_ctrl (s : State) (w : Word) : (s.accept w).ctrl = s.ctrl := rfl
@[simp] theorem State.accept_status (s : State) (w : Word) : (s.accept w).status = s.status.accepted := rfl
@[simp] theorem State.accept_op (s : State) (w : Word) : (s.accept w).op = w := rfl
@[simp] theorem State.accept_arg (s : State) (w : Word) : (s.accept w).arg = s.arg := rfl
@[simp] theorem State.accept_addr (s : State) (w : Word) : (s.accept w).addr = s.addr := rfl
@[simp] theorem State.accept_count (s : State) (w : Word) : (s.accept w).count = s.count := rfl
@[simp] theorem State.accept_xfer (s : State) (w : Word) : (s.accept w).xfer = s.xfer := rfl
@[simp] theorem State.accept_resp (s : State) (w : Word) : (s.accept w).resp = s.resp := rfl
@[simp] theorem State.accept_respx (s : State) (w : Word) : (s.accept w).respx = s.respx := rfl
@[simp] theorem State.accept_dtoken (s : State) (w : Word) : (s.accept w).dtoken = s.dtoken := rfl
@[simp] theorem State.accept_crc7 (s : State) (w : Word) : (s.accept w).crc7 = s.crc7 := rfl
@[simp] theorem State.accept_crc16 (s : State) (w : Word) : (s.accept w).crc16 = s.crc16 := rfl
@[simp] theorem State.accept_crc16Rx (s : State) (w : Word) : (s.accept w).crc16Rx = s.crc16Rx := rfl
@[simp] theorem State.accept_toutRead (s : State) (w : Word) : (s.accept w).toutRead = s.toutRead := rfl
@[simp] theorem State.accept_toutBusy (s : State) (w : Word) : (s.accept w).toutBusy = s.toutBusy := rfl
@[simp] theorem State.accept_phase (s : State) (w : Word) : (s.accept w).phase = .decode := rfl
@[simp] theorem State.accept_cs (s : State) (w : Word) : (s.accept w).cs = s.cs := rfl
@[simp] theorem State.accept_ticks (s : State) (w : Word) : (s.accept w).ticks = s.ticks := rfl
@[simp] theorem State.accept_t0 (s : State) (w : Word) : (s.accept w).t0 = s.t0 := rfl
@[simp] theorem State.accept_attempt (s : State) (w : Word) : (s.accept w).attempt = s.attempt := rfl
@[simp] theorem State.accept_mem (s : State) (w : Word) : (s.accept w).mem = s.mem := rfl
@[simp] theorem State.accept_wire (s : State) (w : Word) : (s.accept w).wire = s.wire := rfl
@[simp] theorem State.accept_holes (s : State) (w : Word) : (s.accept w).holes = s.holes := rfl
@[simp] theorem State.accept_card (s : State) (w : Word) : (s.accept w).card = s.card := rfl
@[simp] theorem State.accept_draws (s : State) (w : Word) : (s.accept w).draws = s.draws := rfl
@[simp] theorem State.accept_sched (s : State) (w : Word) : (s.accept w).sched = s.sched := rfl
@[simp] theorem State.accept_readData (s : State) (w : Word) : (s.accept w).readData = s.readData := rfl

/-! `State.writeStatus` (10_state.md R23) -/

@[simp] theorem State.writeStatus_ctrl (s : State) (w : Word) : (s.writeStatus w).ctrl = s.ctrl := rfl
@[simp] theorem State.writeStatus_status (s : State) (w : Word) : (s.writeStatus w).status = s.status.writeOneToClear w := rfl
@[simp] theorem State.writeStatus_op (s : State) (w : Word) : (s.writeStatus w).op = s.op := rfl
@[simp] theorem State.writeStatus_arg (s : State) (w : Word) : (s.writeStatus w).arg = s.arg := rfl
@[simp] theorem State.writeStatus_addr (s : State) (w : Word) : (s.writeStatus w).addr = s.addr := rfl
@[simp] theorem State.writeStatus_count (s : State) (w : Word) : (s.writeStatus w).count = s.count := rfl
@[simp] theorem State.writeStatus_xfer (s : State) (w : Word) : (s.writeStatus w).xfer = s.xfer := rfl
@[simp] theorem State.writeStatus_resp (s : State) (w : Word) : (s.writeStatus w).resp = s.resp := rfl
@[simp] theorem State.writeStatus_respx (s : State) (w : Word) : (s.writeStatus w).respx = s.respx := rfl
@[simp] theorem State.writeStatus_dtoken (s : State) (w : Word) : (s.writeStatus w).dtoken = s.dtoken := rfl
@[simp] theorem State.writeStatus_crc7 (s : State) (w : Word) : (s.writeStatus w).crc7 = s.crc7 := rfl
@[simp] theorem State.writeStatus_crc16 (s : State) (w : Word) : (s.writeStatus w).crc16 = s.crc16 := rfl
@[simp] theorem State.writeStatus_crc16Rx (s : State) (w : Word) : (s.writeStatus w).crc16Rx = s.crc16Rx := rfl
@[simp] theorem State.writeStatus_toutRead (s : State) (w : Word) : (s.writeStatus w).toutRead = s.toutRead := rfl
@[simp] theorem State.writeStatus_toutBusy (s : State) (w : Word) : (s.writeStatus w).toutBusy = s.toutBusy := rfl
@[simp] theorem State.writeStatus_phase (s : State) (w : Word) : (s.writeStatus w).phase = s.phase := rfl
@[simp] theorem State.writeStatus_cs (s : State) (w : Word) : (s.writeStatus w).cs = s.cs := rfl
@[simp] theorem State.writeStatus_ticks (s : State) (w : Word) : (s.writeStatus w).ticks = s.ticks := rfl
@[simp] theorem State.writeStatus_t0 (s : State) (w : Word) : (s.writeStatus w).t0 = s.t0 := rfl
@[simp] theorem State.writeStatus_attempt (s : State) (w : Word) : (s.writeStatus w).attempt = s.attempt := rfl
@[simp] theorem State.writeStatus_mem (s : State) (w : Word) : (s.writeStatus w).mem = s.mem := rfl
@[simp] theorem State.writeStatus_wire (s : State) (w : Word) : (s.writeStatus w).wire = s.wire := rfl
@[simp] theorem State.writeStatus_holes (s : State) (w : Word) : (s.writeStatus w).holes = s.holes := rfl
@[simp] theorem State.writeStatus_card (s : State) (w : Word) : (s.writeStatus w).card = s.card := rfl
@[simp] theorem State.writeStatus_draws (s : State) (w : Word) : (s.writeStatus w).draws = s.draws := rfl
@[simp] theorem State.writeStatus_sched (s : State) (w : Word) : (s.writeStatus w).sched = s.sched := rfl
@[simp] theorem State.writeStatus_readData (s : State) (w : Word) : (s.writeStatus w).readData = s.readData := rfl

/-! `State.rejectWrite` (10_state.md R23) -/

@[simp] theorem State.rejectWrite_ctrl (s : State) : (s.rejectWrite).ctrl = s.ctrl := rfl
@[simp] theorem State.rejectWrite_status (s : State) : (s.rejectWrite).status = { s.status with rej := true } := rfl
@[simp] theorem State.rejectWrite_op (s : State) : (s.rejectWrite).op = s.op := rfl
@[simp] theorem State.rejectWrite_arg (s : State) : (s.rejectWrite).arg = s.arg := rfl
@[simp] theorem State.rejectWrite_addr (s : State) : (s.rejectWrite).addr = s.addr := rfl
@[simp] theorem State.rejectWrite_count (s : State) : (s.rejectWrite).count = s.count := rfl
@[simp] theorem State.rejectWrite_xfer (s : State) : (s.rejectWrite).xfer = s.xfer := rfl
@[simp] theorem State.rejectWrite_resp (s : State) : (s.rejectWrite).resp = s.resp := rfl
@[simp] theorem State.rejectWrite_respx (s : State) : (s.rejectWrite).respx = s.respx := rfl
@[simp] theorem State.rejectWrite_dtoken (s : State) : (s.rejectWrite).dtoken = s.dtoken := rfl
@[simp] theorem State.rejectWrite_crc7 (s : State) : (s.rejectWrite).crc7 = s.crc7 := rfl
@[simp] theorem State.rejectWrite_crc16 (s : State) : (s.rejectWrite).crc16 = s.crc16 := rfl
@[simp] theorem State.rejectWrite_crc16Rx (s : State) : (s.rejectWrite).crc16Rx = s.crc16Rx := rfl
@[simp] theorem State.rejectWrite_toutRead (s : State) : (s.rejectWrite).toutRead = s.toutRead := rfl
@[simp] theorem State.rejectWrite_toutBusy (s : State) : (s.rejectWrite).toutBusy = s.toutBusy := rfl
@[simp] theorem State.rejectWrite_phase (s : State) : (s.rejectWrite).phase = s.phase := rfl
@[simp] theorem State.rejectWrite_cs (s : State) : (s.rejectWrite).cs = s.cs := rfl
@[simp] theorem State.rejectWrite_ticks (s : State) : (s.rejectWrite).ticks = s.ticks := rfl
@[simp] theorem State.rejectWrite_t0 (s : State) : (s.rejectWrite).t0 = s.t0 := rfl
@[simp] theorem State.rejectWrite_attempt (s : State) : (s.rejectWrite).attempt = s.attempt := rfl
@[simp] theorem State.rejectWrite_mem (s : State) : (s.rejectWrite).mem = s.mem := rfl
@[simp] theorem State.rejectWrite_wire (s : State) : (s.rejectWrite).wire = s.wire := rfl
@[simp] theorem State.rejectWrite_holes (s : State) : (s.rejectWrite).holes = s.holes := rfl
@[simp] theorem State.rejectWrite_card (s : State) : (s.rejectWrite).card = s.card := rfl
@[simp] theorem State.rejectWrite_draws (s : State) : (s.rejectWrite).draws = s.draws := rfl
@[simp] theorem State.rejectWrite_sched (s : State) : (s.rejectWrite).sched = s.sched := rfl
@[simp] theorem State.rejectWrite_readData (s : State) : (s.rejectWrite).readData = s.readData := rfl

/-! `State.tick` (10_state.md R27) -/

@[simp] theorem State.tick_ctrl (s : State) : (s.tick).ctrl = s.ctrl := rfl
@[simp] theorem State.tick_status (s : State) : (s.tick).status = s.status := rfl
@[simp] theorem State.tick_op (s : State) : (s.tick).op = s.op := rfl
@[simp] theorem State.tick_arg (s : State) : (s.tick).arg = s.arg := rfl
@[simp] theorem State.tick_addr (s : State) : (s.tick).addr = s.addr := rfl
@[simp] theorem State.tick_count (s : State) : (s.tick).count = s.count := rfl
@[simp] theorem State.tick_xfer (s : State) : (s.tick).xfer = s.xfer := rfl
@[simp] theorem State.tick_resp (s : State) : (s.tick).resp = s.resp := rfl
@[simp] theorem State.tick_respx (s : State) : (s.tick).respx = s.respx := rfl
@[simp] theorem State.tick_dtoken (s : State) : (s.tick).dtoken = s.dtoken := rfl
@[simp] theorem State.tick_crc7 (s : State) : (s.tick).crc7 = s.crc7 := rfl
@[simp] theorem State.tick_crc16 (s : State) : (s.tick).crc16 = s.crc16 := rfl
@[simp] theorem State.tick_crc16Rx (s : State) : (s.tick).crc16Rx = s.crc16Rx := rfl
@[simp] theorem State.tick_toutRead (s : State) : (s.tick).toutRead = s.toutRead := rfl
@[simp] theorem State.tick_toutBusy (s : State) : (s.tick).toutBusy = s.toutBusy := rfl
@[simp] theorem State.tick_phase (s : State) : (s.tick).phase = s.phase := rfl
@[simp] theorem State.tick_cs (s : State) : (s.tick).cs = s.cs := rfl
@[simp] theorem State.tick_ticks (s : State) : (s.tick).ticks = s.ticks + 1#32 := rfl
@[simp] theorem State.tick_t0 (s : State) : (s.tick).t0 = s.t0 := rfl
@[simp] theorem State.tick_attempt (s : State) : (s.tick).attempt = s.attempt := rfl
@[simp] theorem State.tick_mem (s : State) : (s.tick).mem = s.mem := rfl
@[simp] theorem State.tick_wire (s : State) : (s.tick).wire = s.wire := rfl
@[simp] theorem State.tick_holes (s : State) : (s.tick).holes = s.holes := rfl
@[simp] theorem State.tick_card (s : State) : (s.tick).card = s.card := rfl
@[simp] theorem State.tick_draws (s : State) : (s.tick).draws = s.draws := rfl
@[simp] theorem State.tick_sched (s : State) : (s.tick).sched = s.sched := rfl
@[simp] theorem State.tick_readData (s : State) : (s.tick).readData = s.readData := rfl

/-! `State.latch` (10_state.md R28) -/

@[simp] theorem State.latch_ctrl (s : State) (w : WaitPos) : (s.latch w).ctrl = s.ctrl := by cases w <;> rfl
@[simp] theorem State.latch_status (s : State) (w : WaitPos) : (s.latch w).status = s.status := by cases w <;> rfl
@[simp] theorem State.latch_op (s : State) (w : WaitPos) : (s.latch w).op = s.op := by cases w <;> rfl
@[simp] theorem State.latch_arg (s : State) (w : WaitPos) : (s.latch w).arg = s.arg := by cases w <;> rfl
@[simp] theorem State.latch_addr (s : State) (w : WaitPos) : (s.latch w).addr = s.addr := by cases w <;> rfl
@[simp] theorem State.latch_count (s : State) (w : WaitPos) : (s.latch w).count = s.count := by cases w <;> rfl
@[simp] theorem State.latch_xfer (s : State) (w : WaitPos) : (s.latch w).xfer = s.xfer := by cases w <;> rfl
@[simp] theorem State.latch_resp (s : State) (w : WaitPos) : (s.latch w).resp = s.resp := by cases w <;> rfl
@[simp] theorem State.latch_respx (s : State) (w : WaitPos) : (s.latch w).respx = s.respx := by cases w <;> rfl
@[simp] theorem State.latch_dtoken (s : State) (w : WaitPos) : (s.latch w).dtoken = s.dtoken := by cases w <;> rfl
@[simp] theorem State.latch_crc7 (s : State) (w : WaitPos) : (s.latch w).crc7 = s.crc7 := by cases w <;> rfl
@[simp] theorem State.latch_crc16 (s : State) (w : WaitPos) : (s.latch w).crc16 = s.crc16 := by cases w <;> rfl
@[simp] theorem State.latch_crc16Rx (s : State) (w : WaitPos) : (s.latch w).crc16Rx = s.crc16Rx := by cases w <;> rfl
@[simp] theorem State.latch_toutRead (s : State) (w : WaitPos) : (s.latch w).toutRead = s.toutRead := by cases w <;> rfl
@[simp] theorem State.latch_toutBusy (s : State) (w : WaitPos) : (s.latch w).toutBusy = s.toutBusy := by cases w <;> rfl
@[simp] theorem State.latch_phase (s : State) (w : WaitPos) : (s.latch w).phase = s.phase := by cases w <;> rfl
@[simp] theorem State.latch_cs (s : State) (w : WaitPos) : (s.latch w).cs = s.cs := by cases w <;> rfl
@[simp] theorem State.latch_ticks (s : State) (w : WaitPos) : (s.latch w).ticks = s.ticks := by cases w <;> rfl
@[simp] theorem State.latch_t0 (s : State) (w : WaitPos) : (s.latch w).t0 = (if w = .first then s.ticks else s.t0) := by cases w <;> rfl
@[simp] theorem State.latch_attempt (s : State) (w : WaitPos) : (s.latch w).attempt = s.attempt := by cases w <;> rfl
@[simp] theorem State.latch_mem (s : State) (w : WaitPos) : (s.latch w).mem = s.mem := by cases w <;> rfl
@[simp] theorem State.latch_wire (s : State) (w : WaitPos) : (s.latch w).wire = s.wire := by cases w <;> rfl
@[simp] theorem State.latch_holes (s : State) (w : WaitPos) : (s.latch w).holes = s.holes := by cases w <;> rfl
@[simp] theorem State.latch_card (s : State) (w : WaitPos) : (s.latch w).card = s.card := by cases w <;> rfl
@[simp] theorem State.latch_draws (s : State) (w : WaitPos) : (s.latch w).draws = s.draws := by cases w <;> rfl
@[simp] theorem State.latch_sched (s : State) (w : WaitPos) : (s.latch w).sched = s.sched := by cases w <;> rfl
@[simp] theorem State.latch_readData (s : State) (w : WaitPos) : (s.latch w).readData = s.readData := by cases w <;> rfl

/-- An exchange's answer depends on the card's coming answers and its count alone. -/
theorem State.answer_congr {s t : State} (hc : t.card = s.card) (hd : t.draws = s.draws) : t.answer = s.answer := by
  simp [State.answer, hc, hd]

@[simp] theorem State.latch_answer (s : State) (w : WaitPos) : (s.latch w).answer = s.answer :=
  State.answer_congr (by simp) (by simp)

/-- A scripted answer is taken first. -/
theorem State.answer_of_card {s : State} {b : Byte} {rest : List Byte} (h : s.card = b :: rest) : s.answer = b := by
  simp [State.answer, h]

@[simp] theorem State.latch_again (s : State) : s.latch .again = s := rfl

@[simp] theorem State.byteAt_storeByte (s : State) (a b : Word) (v : Byte) :
    (s.storeByte a v).byteAt b = (s.mem.write a.toNat v).read b.toNat := rfl

/-- `Backed` reads only `holes`. -/
theorem State.backed_congr {s t : State} (h : t.holes = s.holes) (a : Word) : t.backed a = s.backed a := by
  simp [State.backed, h]

/-- A byte of host memory is read from `mem` alone. -/
theorem State.byteAt_congr {s t : State} (h : t.mem = s.mem) (a : Word) : t.byteAt a = s.byteAt a := by
  simp [State.byteAt, h]

@[simp] theorem Status.finished_retryable (st : Status) (e : ErrCode) (c : CompletionClass) :
    (st.finished e c).retryable = st.retryable := rfl

@[simp] theorem Status.finished_needsCheck (st : Status) (e : ErrCode) (c : CompletionClass) :
    (st.finished e c).needsCheck = st.needsCheck := rfl

@[simp] theorem Status.finished_stopped (st : Status) (e : ErrCode) (c : CompletionClass) :
    (st.finished e c).stopped = st.stopped := rfl

@[simp] theorem Status.finished_derr (st : Status) (e : ErrCode) (c : CompletionClass) :
    (st.finished e c).derr = st.derr := rfl

@[simp] theorem Status.finished_attempts (st : Status) (e : ErrCode) (c : CompletionClass) :
    (st.finished e c).attempts = st.attempts := rfl

@[simp] theorem Status.finished_rej (st : Status) (e : ErrCode) (c : CompletionClass) :
    (st.finished e c).rej = st.rej := rfl

@[simp] theorem Status.finished_busy (st : Status) (e : ErrCode) (c : CompletionClass) :
    (st.finished e c).busy = false := rfl

@[simp] theorem Status.finished_done (st : Status) (e : ErrCode) (c : CompletionClass) :
    (st.finished e c).done = true := rfl

@[simp] theorem Status.finished_err (st : Status) (e : ErrCode) (c : CompletionClass) :
    (st.finished e c).err = e := rfl

@[simp] theorem Status.finished_cls (st : Status) (e : ErrCode) (c : CompletionClass) :
    (st.finished e c).cls = c := rfl

/-! `State.startExchange` (10_state.md R28, 70_reset_and_hazards.md R131) -/

@[simp] theorem State.startExchange_ctrl (s : State) : s.startExchange.ctrl = s.ctrl := by
  unfold State.startExchange; split <;> rfl
@[simp] theorem State.startExchange_status (s : State) : s.startExchange.status = s.status := by
  unfold State.startExchange; split <;> rfl
@[simp] theorem State.startExchange_op (s : State) : s.startExchange.op = s.op := by
  unfold State.startExchange; split <;> rfl
@[simp] theorem State.startExchange_arg (s : State) : s.startExchange.arg = s.arg := by
  unfold State.startExchange; split <;> rfl
@[simp] theorem State.startExchange_addr (s : State) : s.startExchange.addr = s.addr := by
  unfold State.startExchange; split <;> rfl
@[simp] theorem State.startExchange_count (s : State) : s.startExchange.count = s.count := by
  unfold State.startExchange; split <;> rfl
@[simp] theorem State.startExchange_xfer (s : State) : s.startExchange.xfer = s.xfer := by
  unfold State.startExchange; split <;> rfl
@[simp] theorem State.startExchange_resp (s : State) : s.startExchange.resp = s.resp := by
  unfold State.startExchange; split <;> rfl
@[simp] theorem State.startExchange_respx (s : State) : s.startExchange.respx = s.respx := by
  unfold State.startExchange; split <;> rfl
@[simp] theorem State.startExchange_dtoken (s : State) : s.startExchange.dtoken = s.dtoken := by
  unfold State.startExchange; split <;> rfl
@[simp] theorem State.startExchange_crc7 (s : State) : s.startExchange.crc7 = s.crc7 := by
  unfold State.startExchange; split <;> rfl
@[simp] theorem State.startExchange_crc16 (s : State) : s.startExchange.crc16 = s.crc16 := by
  unfold State.startExchange; split <;> rfl
@[simp] theorem State.startExchange_crc16Rx (s : State) : s.startExchange.crc16Rx = s.crc16Rx := by
  unfold State.startExchange; split <;> rfl
@[simp] theorem State.startExchange_toutRead (s : State) : s.startExchange.toutRead = s.toutRead := by
  unfold State.startExchange; split <;> rfl
@[simp] theorem State.startExchange_toutBusy (s : State) : s.startExchange.toutBusy = s.toutBusy := by
  unfold State.startExchange; split <;> rfl
@[simp] theorem State.startExchange_cs (s : State) : s.startExchange.cs = s.cs := by
  unfold State.startExchange; split <;> rfl
@[simp] theorem State.startExchange_ticks (s : State) : s.startExchange.ticks = s.ticks := by
  unfold State.startExchange; split <;> rfl
@[simp] theorem State.startExchange_attempt (s : State) : s.startExchange.attempt = s.attempt := by
  unfold State.startExchange; split <;> rfl
@[simp] theorem State.startExchange_mem (s : State) : s.startExchange.mem = s.mem := by
  unfold State.startExchange; split <;> rfl
@[simp] theorem State.startExchange_wire (s : State) : s.startExchange.wire = s.wire := by
  unfold State.startExchange; split <;> rfl
@[simp] theorem State.startExchange_holes (s : State) : s.startExchange.holes = s.holes := by
  unfold State.startExchange; split <;> rfl
@[simp] theorem State.startExchange_card (s : State) : s.startExchange.card = s.card := by
  unfold State.startExchange; split <;> rfl
@[simp] theorem State.startExchange_draws (s : State) : s.startExchange.draws = s.draws := by
  unfold State.startExchange; split <;> rfl
@[simp] theorem State.startExchange_sched (s : State) : s.startExchange.sched = s.sched := by
  unfold State.startExchange; split <;> rfl
@[simp] theorem State.startExchange_readData (s : State) : s.startExchange.readData = s.readData := by
  unfold State.startExchange; split <;> rfl
@[simp] theorem State.startExchange_phase (s : State) : s.startExchange.phase = s.phase.started := by
  unfold State.startExchange; split
  · exact Eq.symm ‹_›
  · rfl
theorem State.startExchange_of_started {s : State} (h : s.phase.started = s.phase) : s.startExchange = s := by
  simp [State.startExchange, h]
theorem State.startExchange_of_first {s : State} (h : s.phase.started ≠ s.phase) :
    s.startExchange = { s with t0 := s.ticks, phase := s.phase.started } := by
  simp [State.startExchange, h]

end Sys2Proof.Machine
end

