-- ==== Sys2Proof/Laws/Memory.lean ====
section
/-! SUPPORT. The laws of host memory: a byte reads as last written, other bytes stay, and every write keeps the
canonical form. -/

namespace Sys2Proof.Machine

/-- A byte other than the one written reads as before, in any list. -/
theorem Memory.read_write_of_ne (m : Memory) (a b : Nat) (v : Byte) (h : b ≠ a) :
    (m.write a v).read b = m.read b := by
  induction m with
  | nil =>
    simp only [Memory.write]
    split <;> simp [Memory.read, h.symm]
  | cons c rest ih =>
    obtain ⟨k, u⟩ := c
    simp only [Memory.write]
    split
    · split <;> simp [Memory.read, h.symm]
    · split
      · rename_i hk
        subst hk
        split <;> simp [Memory.read, h.symm]
      · simp only [Memory.read, ih]

/-- An address below every listed one reads as the default. -/
theorem Memory.read_of_below (m : Memory) (a : Nat) (h : m.all (fun c => decide (a < c.1)) = true) :
    m.read a = memDefault := by
  induction m with
  | nil => rfl
  | cons c rest ih =>
    obtain ⟨k, u⟩ := c
    simp only [List.all_cons, Bool.and_eq_true, decide_eq_true_eq] at h
    simp only [Memory.read]
    rw [if_neg (by omega), ih h.2]

/-- In a canonical memory the byte written reads back. -/
theorem Memory.read_write_self (m : Memory) (a : Nat) (v : Byte) (h : m.wf = true) : (m.write a v).read a = v := by
  induction m with
  | nil =>
    simp only [Memory.write]
    split
    · simp_all [Memory.read]
    · simp [Memory.read]
  | cons c rest ih =>
    obtain ⟨k, u⟩ := c
    simp only [Memory.wf, Bool.and_eq_true] at h
    obtain ⟨⟨_, hall⟩, hrest⟩ := h
    simp only [Memory.write]
    split
    · rename_i hlt
      split
      · rename_i hv
        rw [hv]
        apply Memory.read_of_below
        simp only [List.all_cons, Bool.and_eq_true, decide_eq_true_eq, List.all_eq_true] at hall ⊢
        exact ⟨hlt, fun c hc => Nat.lt_trans hlt (hall c hc)⟩
      · simp [Memory.read]
    · split
      · rename_i hk
        subst hk
        split
        · rename_i hv
          rw [hv]
          exact Memory.read_of_below rest a hall
        · simp [Memory.read]
      · rename_i hk
        simp only [Memory.read]
        rw [if_neg (fun e => hk e.symm), ih hrest]

/-- A write lists no address below a bound that was below every listed one and the one written. -/
theorem Memory.write_all (m : Memory) (a : Nat) (v : Byte) (p : Nat → Bool) (h : m.all (fun c => p c.1) = true)
    (ha : p a = true) : (m.write a v).all (fun c => p c.1) = true := by
  induction m with
  | nil =>
    simp only [Memory.write]
    split <;> simp [ha]
  | cons c rest ih =>
    obtain ⟨k, u⟩ := c
    simp only [List.all_cons, Bool.and_eq_true] at h
    simp only [Memory.write]
    split
    · split <;> simp [ha, h.1, h.2]
    · split
      · split <;> simp [ha, h.2]
      · simp [h.1, ih h.2]

/-- Every write at a 32-bit address keeps the canonical form. -/
theorem Memory.write_wf (m : Memory) (a : Nat) (v : Byte) (ha : a < 2 ^ 32) (h : m.wf = true) :
    (m.write a v).wf = true := by
  induction m with
  | nil =>
    simp only [Memory.write]
    split
    · rfl
    · simp_all [Memory.wf]
  | cons c rest ih =>
    obtain ⟨k, u⟩ := c
    have h' := h
    simp only [Memory.wf, Bool.and_eq_true, decide_eq_true_eq] at h'
    obtain ⟨⟨⟨hk, hu⟩, hall⟩, hrest⟩ := h'
    simp only [Memory.write]
    split
    · rename_i hlt
      split
      · exact h
      · rename_i hv
        simp only [Memory.wf, Bool.and_eq_true, decide_eq_true_eq, List.all_cons]
        refine ⟨⟨⟨ha, by simpa using hv⟩, hlt, ?_⟩, ⟨⟨hk, hu⟩, hall⟩, hrest⟩
        simp only [List.all_eq_true, decide_eq_true_eq] at hall ⊢
        exact fun c hc => Nat.lt_trans hlt (hall c hc)
    · split
      · rename_i hka
        subst hka
        split
        · exact hrest
        · rename_i hv
          simp only [Memory.wf, Bool.and_eq_true, decide_eq_true_eq]
          exact ⟨⟨⟨ha, by simpa using hv⟩, hall⟩, hrest⟩
      · rename_i hge hne
        simp only [Memory.wf, Bool.and_eq_true, decide_eq_true_eq]
        refine ⟨⟨⟨hk, hu⟩, ?_⟩, ih hrest⟩
        exact Memory.write_all rest a v (fun x => decide (k < x)) hall (by simp; omega)

/-- Every store of a byte keeps host memory canonical (20_memory.md R35). -/
theorem State.storeByte_wf (s : State) (a : Word) (v : Byte) (h : s.mem.wf = true) :
    (s.storeByte a v).mem.wf = true := by
  rw [State.storeByte_mem]
  exact Memory.write_wf s.mem a.toNat v a.isLt h

/-- Reset keeps host memory, and reset memory is canonical. -/
theorem State.reset_mem_wf : State.reset.mem.wf = true := rfl

/-- The byte stored reads back. -/
theorem State.byteAt_storeByte_self (s : State) (a : Word) (v : Byte) (h : s.mem.wf = true) :
    (s.storeByte a v).byteAt a = v := by
  rw [State.byteAt_storeByte]
  exact Memory.read_write_self s.mem a.toNat v h

/-- Every other byte stays. -/
theorem State.byteAt_storeByte_of_ne (s : State) (a b : Word) (v : Byte) (h : b ≠ a) :
    (s.storeByte a v).byteAt b = s.byteAt b := by
  rw [State.byteAt_storeByte]
  exact Memory.read_write_of_ne s.mem a.toNat b.toNat v (fun e => h (BitVec.eq_of_toNat_eq e))

end Sys2Proof.Machine
end

