-- ==== Sys2Proof/Laws/Frames.lean ====
section
/-! SUPPORT. One frame lemma per shared operation: everything it leaves as it was, so that no later proof unfolds it. -/

namespace Sys2Proof.Machine

/-- What no operation's action writes (10_state.md R13, R14, R16, R23, R27): the host's registers, `ticks`, REJ, and the
other agents' side. -/
structure SameHostSide (s t : State) : Prop where
  ctrl : t.ctrl = s.ctrl
  op : t.op = s.op
  arg : t.arg = s.arg
  count : t.count = s.count
  toutRead : t.toutRead = s.toutRead
  toutBusy : t.toutBusy = s.toutBusy
  ticks : t.ticks = s.ticks
  holes : t.holes = s.holes
  sched : t.sched = s.sched
  readData : t.readData = s.readData
  rej : t.status.rej = s.status.rej

/-- The part of the record that only `Finish` and the decode step write (60_exceptions.md R109). -/
structure SameCompletion (s t : State) : Prop where
  busy : t.status.busy = s.status.busy
  done : t.status.done = s.status.done
  err : t.status.err = s.status.err
  cls : t.status.cls = s.status.cls

/-- What CmdCore leaves alone besides (41_command.md R84, R85). -/
structure CmdFrame (s t : State) : Prop extends SameHostSide s t, SameCompletion s t where
  addr : t.addr = s.addr
  xfer : t.xfer = s.xfer
  dtoken : t.dtoken = s.dtoken
  crc16 : t.crc16 = s.crc16
  crc16Rx : t.crc16Rx = s.crc16Rx
  mem : t.mem = s.mem
  phase : t.phase = s.phase
  derr : t.status.derr = s.status.derr
  retryable : t.status.retryable = s.status.retryable
  needsCheck : t.status.needsCheck = s.status.needsCheck
  stopped : t.status.stopped = s.status.stopped

theorem CmdFrame.refl (s : State) : CmdFrame s s :=
  ⟨⟨rfl, rfl, rfl, rfl, rfl, rfl, rfl, rfl, rfl, rfl, rfl⟩, ⟨rfl, rfl, rfl, rfl⟩, rfl, rfl, rfl, rfl, rfl, rfl, rfl,
    rfl, rfl, rfl, rfl⟩

theorem attemptEnd_frame (cls : CompletionClass) (retryable : Bool) (s : State) :
    CmdFrame s (attemptEnd cls retryable s).1 := by
  unfold attemptEnd
  split
  · constructor <;> first | rfl | (constructor <;> rfl)
  · exact CmdFrame.refl s

theorem CmdFrame.trans {s t u : State} (h : CmdFrame s t) (k : CmdFrame t u) : CmdFrame s u := by
  constructor
  · constructor
    · exact k.ctrl.trans h.ctrl
    · exact k.op.trans h.op
    · exact k.arg.trans h.arg
    · exact k.count.trans h.count
    · exact k.toutRead.trans h.toutRead
    · exact k.toutBusy.trans h.toutBusy
    · exact k.ticks.trans h.ticks
    · exact k.holes.trans h.holes
    · exact k.sched.trans h.sched
    · exact k.readData.trans h.readData
    · exact k.rej.trans h.rej
  · constructor
    · exact k.busy.trans h.busy
    · exact k.done.trans h.done
    · exact k.err.trans h.err
    · exact k.cls.trans h.cls
  · exact k.addr.trans h.addr
  · exact k.xfer.trans h.xfer
  · exact k.dtoken.trans h.dtoken
  · exact k.crc16.trans h.crc16
  · exact k.crc16Rx.trans h.crc16Rx
  · exact k.mem.trans h.mem
  · exact k.phase.trans h.phase
  · exact k.derr.trans h.derr
  · exact k.retryable.trans h.retryable
  · exact k.needsCheck.trans h.needsCheck
  · exact k.stopped.trans h.stopped

theorem exchange_frame (tx : Byte) (s : State) : CmdFrame s (s.exchange tx) := by
  constructor <;> first | rfl | (constructor <;> rfl)

theorem latch_frame (w : WaitPos) (s : State) : CmdFrame s (s.latch w) := by
  cases w <;> (constructor <;> first | rfl | (constructor <;> rfl))

theorem r1Found_frame (idx : BitVec 6) (kind : RKind) (rx : Byte) (s : State) :
    CmdFrame s (r1Found idx kind rx s).1 := by
  have hs : CmdFrame s { s with resp := maskR1 idx rx } := by
    constructor <;> first | rfl | (constructor <;> rfl)
  cases kind <;> simp only [r1Found] <;> first | exact hs | exact hs.trans (attemptEnd_frame _ _ _)

theorem resyncStep_frame (p : ResyncPos) (s : State) : CmdFrame s (resyncStep p s).1 := by
  cases p <;> (constructor <;> first | rfl | (constructor <;> rfl))

/-- Whatever its position, an action of CmdCore leaves all of `CmdFrame` alone (41_command.md R84). -/
theorem cmdStep_frame (idx : BitVec 6) (arg : Word) (kind : RKind) (p : CmdPos) (s : State) :
    CmdFrame s (cmdStep idx arg kind p s).1 := by
  have hframe : ∀ (k : Nat) (s : State), CmdFrame s (frameStep idx arg kind k s).1 := by
    intro k s
    unfold frameStep sendFrameEnd sendFrameByte
    repeat' split
    all_goals (constructor <;> first | rfl | (constructor <;> rfl))
  cases p with
  | start =>
    exact CmdFrame.trans (by constructor <;> first | rfl | (constructor <;> rfl)) (hframe 0 _)
  | frame k => exact hframe k s
  | stuff => exact exchange_frame _ s
  | poll k =>
    simp only [cmdStep, pollStep]
    split
    · exact (exchange_frame _ s).trans (r1Found_frame idx kind _ _)
    · split
      · exact exchange_frame _ s
      · refine (exchange_frame Config.idleByte s).trans (CmdFrame.trans ?_ (attemptEnd_frame _ _ _))
        constructor <;> first | rfl | (constructor <;> rfl)
  | tail k cls =>
    have ht : CmdFrame s { s.exchange Config.idleByte with respx := respxAfter kind s.respx s.answer } := by
      constructor <;> first | rfl | (constructor <;> rfl)
    simp only [cmdStep, tailStep]
    split
    · exact ht
    · exact ht.trans (attemptEnd_frame _ _ _)
  | busy w cls =>
    simp only [cmdStep, busyStep]
    have hl := (latch_frame w s).trans (exchange_frame Config.idleByte (s.latch w))
    split
    · exact hl.trans (attemptEnd_frame _ _ _)
    · exact hl.trans (attemptEnd_frame _ _ _)
    · exact hl
  | resync q =>
    have h := resyncStep_frame q s
    simp only [cmdStep]
    split <;> (rename_i heq; rw [heq] at h; exact h)

/-- What RecvPacket leaves alone (42_data_transfer.md R93, R96). -/
structure RecvFrame (s t : State) : Prop extends SameHostSide s t, SameCompletion s t where
  resp : t.resp = s.resp
  respx : t.respx = s.respx
  crc7 : t.crc7 = s.crc7
  attempt : t.attempt = s.attempt
  cs : t.cs = s.cs
  phase : t.phase = s.phase
  attempts : t.status.attempts = s.status.attempts
  retryable : t.status.retryable = s.status.retryable
  needsCheck : t.status.needsCheck = s.status.needsCheck
  stopped : t.status.stopped = s.status.stopped

theorem recvToken_frame (n : Nat) (w : WaitPos) (s : State) : RecvFrame s (recvToken n w s).1 := by
  cases w <;> simp only [recvToken, State.latch] <;> repeat' split
  all_goals (constructor <;> first | rfl | (constructor <;> rfl))

/-- The start-token wait stores nothing (42_data_transfer.md R92). -/
theorem recvToken_mem (n : Nat) (w : WaitPos) (s : State) : (recvToken n w s).1.mem = s.mem := by
  cases w <;> simp only [recvToken, State.latch] <;> repeat' split
  all_goals rfl

theorem recvCrcLo_frame (n : Nat) (s : State) : RecvFrame s (recvCrcLo n s).1 := by
  simp only [recvCrcLo]
  split
  all_goals (constructor <;> first | rfl | (constructor <;> rfl))

/-- The check of the CRC stores nothing (42_data_transfer.md R93). -/
theorem recvCrcLo_mem (n : Nat) (s : State) : (recvCrcLo n s).1.mem = s.mem := by
  simp only [recvCrcLo]
  split <;> rfl

/-- Everything an action of RecvPacket can do to what it leaves alone and to host memory (42_data_transfer.md R93): only
the data byte stores, at `dataAddr s j`. -/
theorem recvStep_frame {n : Nat} {p : RecvPos} {s : State} {r : State × RecvNext} (h : recvStep n p s = some r) :
    RecvFrame s r.1 ∧
      ((∃ j, p = .data j ∧ s.backed (dataAddr s j) = true ∧
          r.1.mem = s.mem.write (dataAddr s j).toNat s.answer) ∨
        ((∀ j, p ≠ .data j) ∧ r.1.mem = s.mem)) := by
  cases p with
  | token w =>
    simp only [recvStep, Option.some.injEq] at h
    subst h
    exact ⟨recvToken_frame n w s, .inr ⟨by simp, recvToken_mem n w s⟩⟩
  | data j =>
    simp only [recvStep] at h
    split at h
    · rename_i hb
      cases h
      exact ⟨by constructor <;> first | rfl | (constructor <;> rfl), .inl ⟨j, rfl, hb, rfl⟩⟩
    · cases h
  | crcHi =>
    simp only [recvStep, Option.some.injEq] at h
    subst h
    exact ⟨by constructor <;> first | rfl | (constructor <;> rfl), .inr ⟨by simp, rfl⟩⟩
  | crcLo =>
    simp only [recvStep, Option.some.injEq] at h
    subst h
    exact ⟨recvCrcLo_frame n s, .inr ⟨by simp, recvCrcLo_mem n s⟩⟩

/-- RecvPacket has no step exactly at a data byte whose address is not backed (20_memory.md R36). -/
theorem recvStep_eq_none {n : Nat} {p : RecvPos} {s : State} :
    recvStep n p s = none ↔ ∃ j, p = .data j ∧ s.backed (dataAddr s j) = false := by
  cases p <;> simp [recvStep]

/-- What a block of TransmitBody leaves alone (42_data_transfer.md R99). -/
structure SendFrame (s t : State) : Prop extends SameHostSide s t, SameCompletion s t where
  resp : t.resp = s.resp
  respx : t.respx = s.respx
  crc7 : t.crc7 = s.crc7
  crc16Rx : t.crc16Rx = s.crc16Rx
  attempt : t.attempt = s.attempt
  cs : t.cs = s.cs
  mem : t.mem = s.mem
  attempts : t.status.attempts = s.status.attempts
  derr : t.status.derr = s.status.derr
  stopped : t.status.stopped = s.status.stopped

/-- Whatever its position, an action of a written block leaves all of `SendFrame` alone (42_data_transfer.md R99). -/
theorem sendStep_frame {multi final : Bool} {k : Nat} {p : SendPos} {s t : State}
    (h : sendStep multi final k p s = some t) : SendFrame s t := by
  cases p with
  | ready w =>
    simp only [sendStep, Option.some.injEq] at h
    subst h
    cases w <;> simp only [sendReady, State.latch] <;> split
    all_goals (constructor <;> first | rfl | (constructor <;> rfl))
  | data j =>
    simp only [sendStep] at h
    split at h
    · cases h
      constructor <;> first | rfl | (constructor <;> rfl)
    · cases h
  | response =>
    simp only [sendStep, Option.some.injEq] at h
    subst h
    simp only [sendResponse]
    split
    · exact ⟨⟨rfl, rfl, rfl, rfl, rfl, rfl, rfl, rfl, rfl, rfl, rfl⟩, ⟨rfl, rfl, rfl, rfl⟩, rfl, rfl, rfl, rfl, rfl, rfl,
        rfl, rfl, rfl, rfl⟩
    · exact ⟨⟨rfl, rfl, rfl, rfl, rfl, rfl, rfl, rfl, rfl, rfl, rfl⟩, ⟨rfl, rfl, rfl, rfl⟩, rfl, rfl, rfl, rfl, rfl, rfl,
        rfl, rfl, rfl, rfl⟩
  | token =>
    simp only [sendStep, Option.some.injEq] at h
    subst h
    constructor <;> first | rfl | (constructor <;> rfl)
  | crcHi =>
    simp only [sendStep, Option.some.injEq] at h
    subst h
    constructor <;> first | rfl | (constructor <;> rfl)
  | crcLo =>
    simp only [sendStep, Option.some.injEq] at h
    subst h
    constructor <;> first | rfl | (constructor <;> rfl)

/-- A written block has no step exactly at a data byte whose address is not backed (20_memory.md R36). -/
theorem sendStep_eq_none {multi final : Bool} {k : Nat} {p : SendPos} {s : State} :
    sendStep multi final k p s = none ↔ ∃ j, p = .data j ∧ s.backed (dataAddr s j) = false := by
  cases p <;> simp [sendStep]

/-- What StopSeq leaves alone: a block's frame but STOPPED, and the block registers (42_data_transfer.md R98). -/
structure StopFrame (s t : State) : Prop extends SameHostSide s t, SameCompletion s t where
  addr : t.addr = s.addr
  xfer : t.xfer = s.xfer
  resp : t.resp = s.resp
  respx : t.respx = s.respx
  dtoken : t.dtoken = s.dtoken
  crc7 : t.crc7 = s.crc7
  crc16 : t.crc16 = s.crc16
  crc16Rx : t.crc16Rx = s.crc16Rx
  attempt : t.attempt = s.attempt
  cs : t.cs = s.cs
  mem : t.mem = s.mem
  phase : t.phase = s.phase
  attempts : t.status.attempts = s.status.attempts
  derr : t.status.derr = s.status.derr
  retryable : t.status.retryable = s.status.retryable
  needsCheck : t.status.needsCheck = s.status.needsCheck

theorem stopStep_frame (p : StopPos) (s : State) : StopFrame s (stopStep p s).1 := by
  cases p with
  | ready w =>
    cases w <;> simp only [stopStep, State.latch] <;> split
    all_goals (constructor <;> first | rfl | (constructor <;> rfl))
  | token => constructor <;> first | rfl | (constructor <;> rfl)
  | stuff => constructor <;> first | rfl | (constructor <;> rfl)

/-- The one inversion of `runPhase`: an operation's next state is the idle one unchanged, the decode step's, `Finish`,
or its body's at a position of its own (00_scope.md R5). -/
theorem runPhase_cases {legal : Bool} {first : Phase} {body : State → StepResult} {s t : State}
    (h : runPhase legal first body s = .next t) :
    (s.phase = .idle ∧ t = s) ∨ (s.phase = .decode ∧ t = s.decodeTo legal first) ∨
      (∃ e c, s.phase = .finish e c ∧ t = s.finish e c) ∨
      (s.phase ≠ .idle ∧ s.phase ≠ .decode ∧ (∀ e c, s.phase ≠ .finish e c) ∧ body s = .next t) := by
  unfold runPhase at h
  split at h
  · rename_i hp
    injection h with h
    exact .inl ⟨hp, h.symm⟩
  · rename_i hp
    injection h with h
    exact .inr (.inl ⟨hp, h.symm⟩)
  · rename_i e c hp
    injection h with h
    exact .inr (.inr (.inl ⟨e, c, hp, h.symm⟩))
  · rename_i h1 h2 h3
    exact .inr (.inr (.inr ⟨h1, h2, h3, h⟩))

@[simp] theorem runPhase_decode {legal : Bool} {first : Phase} {body : State → StepResult} {s : State}
    (h : s.phase = .decode) : runPhase legal first body s = .next (s.decodeTo legal first) := by
  simp [runPhase, h]

theorem runPhase_finish {legal : Bool} {first : Phase} {body : State → StepResult} {s : State}
    {e : ErrCode} {c : CompletionClass} (h : s.phase = .finish e c) :
    runPhase legal first body s = .next (s.finish e c) := by
  simp [runPhase, h]

@[simp] theorem runPhase_idle {legal : Bool} {first : Phase} {body : State → StepResult} {s : State}
    (h : s.phase = .idle) : runPhase legal first body s = .next s := by
  simp [runPhase, h]

@[simp] theorem State.decodeTo_true (first : Phase) (s : State) : s.decodeTo true first = s.setPhase first := rfl

@[simp] theorem State.decodeTo_false (first : Phase) (s : State) :
    s.decodeTo false first = s.finish .illegalOp .illegal := rfl

end Sys2Proof.Machine
end

