-- ==== Sys2Proof/Laws/PerInstr.lean ====
section
/-! SUPPORT. The statements "for all operations", one lemma per constructor. Family `RowSelects`: the row of the
operation's mnemonic (30_encoding.md R51) selects the operation's word, whatever its operands are. -/

namespace Sys2Proof.Laws

open Sys2Proof

/-- Some row of the opcode map that carries the operation's mnemonic selects its word. -/
def RowSelects.Statement (i : Instr) : Prop :=
  ∃ r ∈ opcodeMap, r.mnemonic = mnemonic i ∧ r.selects (encode i) = true

/-- The row at a position of the map is the witness. -/
theorem rowSelects_of_row {i : Instr} (r : OpRow) (hm : r ∈ opcodeMap) (hn : r.mnemonic = mnemonic i)
    (h : encode i &&& r.mask = r.pattern) : RowSelects.Statement i :=
  ⟨r, hm, hn, by simp [OpRow.selects, h]⟩

theorem RowSelects.crcClear (c7 c16 : Bool) : RowSelects.Statement (.crcClear c7 c16) :=
  rowSelects_of_row opcodeMap[0] (by decide) rfl (by revert c7 c16; decide)

theorem RowSelects.crc7Feed (byte : Byte) : RowSelects.Statement (.crc7Feed byte) :=
  rowSelects_of_row opcodeMap[1] (by decide) rfl (by revert byte; decide)

theorem RowSelects.crc16Feed (byte : Byte) : RowSelects.Statement (.crc16Feed byte) :=
  rowSelects_of_row opcodeMap[2] (by decide) rfl (by revert byte; decide)

theorem RowSelects.sendCmdNone (idx : BitVec 6) : RowSelects.Statement (.sendCmdNone idx) :=
  rowSelects_of_row opcodeMap[3] (by decide) rfl (by revert idx; decide)

theorem RowSelects.sendCmdR1 (idx : BitVec 6) : RowSelects.Statement (.sendCmdR1 idx) :=
  rowSelects_of_row opcodeMap[4] (by decide) rfl (by revert idx; decide)

theorem RowSelects.sendCmdR1B (idx : BitVec 6) : RowSelects.Statement (.sendCmdR1B idx) :=
  rowSelects_of_row opcodeMap[5] (by decide) rfl (by revert idx; decide)

theorem RowSelects.sendCmdR2 (idx : BitVec 6) : RowSelects.Statement (.sendCmdR2 idx) :=
  rowSelects_of_row opcodeMap[6] (by decide) rfl (by revert idx; decide)

theorem RowSelects.sendCmdR3 (idx : BitVec 6) : RowSelects.Statement (.sendCmdR3 idx) :=
  rowSelects_of_row opcodeMap[7] (by decide) rfl (by revert idx; decide)

theorem RowSelects.sendCmdR7 (idx : BitVec 6) : RowSelects.Statement (.sendCmdR7 idx) :=
  rowSelects_of_row opcodeMap[8] (by decide) rfl (by revert idx; decide)

theorem RowSelects.receive : RowSelects.Statement .receive :=
  rowSelects_of_row opcodeMap[9] (by decide) rfl (by decide)

theorem RowSelects.recvShort (len : BitVec 10) : RowSelects.Statement (.recvShort len) :=
  rowSelects_of_row opcodeMap[10] (by decide) rfl (by
    show wordL len &&& 0xFC00FFFF#32 = 0x00000006#32
    ext j hj
    simp only [wordL, BitVec.getElem_and, BitVec.getElem_append]
    interval_cases j <;> simp)

theorem RowSelects.transmit : RowSelects.Statement .transmit :=
  rowSelects_of_row opcodeMap[11] (by decide) rfl (by decide)

theorem RowSelects.transmitM : RowSelects.Statement .transmitM :=
  rowSelects_of_row opcodeMap[12] (by decide) rfl (by decide)

theorem RowSelects.transmitMF : RowSelects.Statement .transmitMF :=
  rowSelects_of_row opcodeMap[13] (by decide) rfl (by decide)

theorem RowSelects.waitReady : RowSelects.Statement .waitReady :=
  rowSelects_of_row opcodeMap[14] (by decide) rfl (by decide)

theorem RowSelects.select : RowSelects.Statement .select :=
  rowSelects_of_row opcodeMap[15] (by decide) rfl (by decide)

theorem RowSelects.deselect : RowSelects.Statement .deselect :=
  rowSelects_of_row opcodeMap[16] (by decide) rfl (by decide)

theorem RowSelects.resync : RowSelects.Statement .resync :=
  rowSelects_of_row opcodeMap[17] (by decide) rfl (by decide)

theorem RowSelects.idle (n : BitVec 11) : RowSelects.Statement (.idle n) :=
  rowSelects_of_row opcodeMap[18] (by decide) rfl (by
    show wordI n &&& 0xF800FFFF#32 = 0x0000000C#32
    ext j hj
    simp only [wordI, BitVec.getElem_and, BitVec.getElem_append]
    interval_cases j <;> simp)

end Sys2Proof.Laws
end

