-- ==== Sys2Proof/Laws/Steps.lean ====
section
/-! SUPPORT. What each group of operations runs, and one lemma per shared action that says everything it answers. -/

namespace Sys2Proof.Machine

/-! The operations of one shape share one body. -/

/-- Every SEND_CMD is `SEND_CMD_body` of its kind (41_command.md R85). -/
theorem exec_of_commandOf {i : Instr} {kind : RKind} {idx : BitVec 6} (h : commandOf i = some (kind, idx))
    (s : State) : exec i s = sendCmdBody kind idx s := by
  cases i <;> simp [commandOf] at h <;> obtain ⟨rfl, rfl⟩ := h <;> rfl

/-- Every TRANSMIT is `TransmitBody` of its flags (42_data_transfer.md R99). -/
theorem exec_of_writeOf {i : Instr} {multi final : Bool} (h : writeOf i = some (multi, final)) (s : State) :
    exec i s = transmitBody (i != .transmit || decide (s.count.toNat ≤ 1)) multi final s := by
  cases i <;> simp [writeOf] at h <;> obtain ⟨rfl, rfl⟩ := h <;> rfl

/-- The two read operations (42_data_transfer.md R95, R96). -/
theorem cases_of_packetLength {i : Instr} {n : Nat} (h : packetLength i = some n) :
    (i = .receive ∧ n = 512) ∨ ∃ len, i = .recvShort len ∧ n = len.toNat := by
  cases i <;> simp_all [packetLength]

/-! Waits -/

/-- The `t0` a wait's exchange tests against (10_state.md R28). -/
def waitStart (w : WaitPos) (s : State) : Word := if w = .first then s.ticks else s.t0

theorem State.latch_eq (w : WaitPos) (s : State) : s.latch w = { s with t0 := waitStart w s } := by
  cases w <;> rfl

theorem State.answer_t0 (s : State) (v : Word) : ({ s with t0 := v } : State).answer = s.answer := rfl

theorem State.answer_latch (w : WaitPos) (s : State) : (s.latch w).answer = s.answer := by
  cases w <;> rfl

/-- A wait's exchange ends OK exactly on its predicate, and by timeout exactly when the predicate fails at the limit
(10_state.md R28). -/
theorem waitResult_latch (good : Byte → Bool) (limit : Word) (w : WaitPos) (s : State) :
    waitResult good limit (s.latch w) =
      if good s.answer = true then .ok
      else if limit.toNat ≤ (s.ticks - waitStart w s).toNat then .timeout
      else .again := by
  cases w <;> rfl

/-- A position whose first exchange has begun stays one. -/
theorem Phase.started_started (p : Phase) : p.started.started = p.started := by
  unfold Phase.started
  split <;> first | rfl | (split <;> simp_all)

/-- Beginning an exchange leaves a wait a wait, and no other position. -/
theorem waiting_started (p : Phase) : waiting p.started = waiting p := by
  unfold Phase.started
  split <;> rfl

/-- Only a wait has an exchange to begin. -/
theorem Phase.started_of_not_waiting {p : Phase} (h : waiting p = false) : p.started = p := by
  unfold Phase.started
  split <;> first | rfl | simp [waiting] at h

/-! The end of an attempt and of SEND_CMD -/

/-- Everything the end of an attempt of SEND_CMD answers (41_command.md R82, R85). -/
theorem sendCmdNext_attemptEnd (cls : CompletionClass) (retryable : Bool) (s : State) :
    sendCmdNext (attemptEnd cls retryable s) =
      if retryable = true ∧ s.attempt.toNat < s.ctrl.cmdRetry.toNat then
        { s with
          attempt := s.attempt + 1#4
          status := { s.status with attempts := s.attempt + 1#4 }
          phase := .command (.resync .low) }
      else { s with phase := if cls = .ok then .finish .noError .ok else .finish .onDrive cls } := by
  by_cases h : retryable = true ∧ s.attempt.toNat < s.ctrl.cmdRetry.toNat
  · simp [attemptEnd, h, sendCmdNext, State.setPhase]
  · rw [if_neg h]
    have h' : (retryable && decide (s.attempt.toNat < s.ctrl.cmdRetry.toNat)) = false := by
      cases retryable <;> simp_all
    simp [attemptEnd, h', sendCmdNext, State.setPhase, sendCmdFinish]

theorem State.exchange_latch (tx : Byte) (w : WaitPos) (s : State) :
    (s.latch w).exchange tx = { s.exchange tx with t0 := waitStart w s } := by
  cases w <;> rfl

/-- Everything one exchange of the R1B busy wait answers (41_command.md R80). -/
theorem busyStep_eq (w : WaitPos) (cls : CompletionClass) (s : State) :
    busyStep w cls s =
      if s.answer = 0xFF#8 then attemptEnd cls (cls == .crc) { s.exchange 0xFF#8 with t0 := waitStart w s }
      else if s.toutBusy.toNat ≤ (s.ticks - waitStart w s).toNat then
        attemptEnd .timeout false { s.exchange 0xFF#8 with t0 := waitStart w s }
      else ({ s.exchange 0xFF#8 with t0 := waitStart w s }, .goOn (.busy .again cls)) := by
  unfold busyStep
  dsimp only
  rw [State.latch_toutBusy, waitResult_latch, State.exchange_latch]
  by_cases h : s.answer = 0xFF#8
  · rw [if_pos h, if_pos (by rw [h]; rfl)]
  · rw [if_neg h, if_neg (by simpa [cardReady] using h)]
    by_cases h2 : s.toutBusy.toNat ≤ (s.ticks - waitStart w s).toNat
    · rw [if_pos h2, if_pos h2]
    · rw [if_neg h2, if_neg h2]

/-- Everything one exchange of the start-token wait answers (42_data_transfer.md R92, R93). -/
theorem recvToken_eq (n : Nat) (w : WaitPos) (s : State) :
    recvToken n w s =
      let t : State := { s.exchange 0xFF#8 with t0 := waitStart w s }
      if s.answer = 0xFF#8 then
        if s.toutRead.toNat ≤ (s.ticks - waitStart w s).toNat then
          ({ t with dtoken := 0xFF#8 }, .failed tokenTimeout)
        else (t, .goOn (.token .again))
      else
        match tokenKind s.answer with
        | .startBlock => ({ t with dtoken := s.answer, crc16 := 0#16 }, .goOn (dataFrom n 0))
        | .dataError =>
          ({ t with
              dtoken := s.answer
              status := { s.status with derr := s.answer.extractLsb' 0 4 } },
            .failed (dataErrorFailure s.answer))
        | .unexpected => ({ t with dtoken := s.answer }, .failed tokenFailure) := by
  unfold recvToken takeToken
  dsimp only
  rw [State.latch_toutRead, waitResult_latch, State.exchange_latch, State.answer_latch]
  by_cases h : s.answer = 0xFF#8
  · rw [if_pos h, if_neg (by simp [tokenSeen, h])]
    by_cases h2 : s.toutRead.toNat ≤ (s.ticks - waitStart w s).toNat
    · rw [if_pos h2, if_pos h2, h]
    · rw [if_neg h2, if_neg h2]
  · rw [if_neg h, if_pos (by simpa [tokenSeen] using h)]
    cases tokenKind s.answer <;> rfl

/-! CmdCore takes its argument and its position as parameters: it neither reads nor writes ARG and `phase`
(41_command.md R84), so RECEIVE's automatic CMD12 (42_data_transfer.md R94) is SEND_CMD.R1B's. -/

/-- The state with another ARG and another position. -/
def State.relocated (arg : Word) (p : Phase) (s : State) : State := { s with arg := arg, phase := p }

/-- The same on the state of an action's answer. -/
def relocatedCmd (arg : Word) (p : Phase) (r : State × CmdNext) : State × CmdNext := (r.1.relocated arg p, r.2)

theorem attemptEnd_relocated (cls : CompletionClass) (retryable : Bool) (a : Word) (q : Phase) (s : State) :
    attemptEnd cls retryable (s.relocated a q) = relocatedCmd a q (attemptEnd cls retryable s) := by
  unfold attemptEnd
  by_cases h : (retryable && decide (s.attempt.toNat < s.ctrl.cmdRetry.toNat)) = true
  · rw [if_pos (show (retryable && decide ((s.relocated a q).attempt.toNat < (s.relocated a q).ctrl.cmdRetry.toNat)) = true
      from h), if_pos h]
    rfl
  · rw [if_neg (show ¬(retryable && decide ((s.relocated a q).attempt.toNat < (s.relocated a q).ctrl.cmdRetry.toNat)) = true
      from h), if_neg h]
    rfl

theorem r1Found_relocated (idx : BitVec 6) (kind : RKind) (rx : Byte) (a : Word) (q : Phase) (s : State) :
    r1Found idx kind rx (s.relocated a q) = relocatedCmd a q (r1Found idx kind rx s) := by
  cases kind <;> first | rfl | exact attemptEnd_relocated _ _ a q { s with resp := maskR1 idx rx }

theorem frameStep_relocated (idx : BitVec 6) (arg : Word) (kind : RKind) (k : Nat) (a : Word) (q : Phase) (s : State) :
    frameStep idx arg kind k (s.relocated a q) = relocatedCmd a q (frameStep idx arg kind k s) := by
  unfold frameStep sendFrameEnd
  by_cases hk : k < 5
  · simp only [if_pos hk]; rfl
  · simp only [if_neg hk]
    by_cases hn : kind = .noResp
    · simp only [if_pos hn]; rfl
    · simp only [if_neg hn]; rfl

theorem pollStep_relocated (idx : BitVec 6) (kind : RKind) (k : Nat) (a : Word) (q : Phase) (s : State) :
    pollStep idx kind k (s.relocated a q) = relocatedCmd a q (pollStep idx kind k s) := by
  unfold pollStep
  dsimp only
  rw [show (s.relocated a q).answer = s.answer from rfl,
    show (s.relocated a q).exchange Config.idleByte = (s.exchange Config.idleByte).relocated a q from rfl]
  split
  · exact r1Found_relocated ..
  · split
    · rfl
    · exact attemptEnd_relocated _ _ a q { s.exchange Config.idleByte with resp := s.answer }

theorem tailStep_relocated (kind : RKind) (k : Nat) (cls : CompletionClass) (a : Word) (q : Phase) (s : State) :
    tailStep kind k cls (s.relocated a q) = relocatedCmd a q (tailStep kind k cls s) := by
  unfold tailStep
  dsimp only
  split
  · rfl
  · exact attemptEnd_relocated _ _ a q { s.exchange Config.idleByte with respx := respxAfter kind s.respx s.answer }

theorem busyStep_relocated (w : WaitPos) (cls : CompletionClass) (a : Word) (q : Phase) (s : State) :
    busyStep w cls (s.relocated a q) = relocatedCmd a q (busyStep w cls s) := by
  rw [busyStep_eq, busyStep_eq, show waitStart w (s.relocated a q) = waitStart w s from rfl]
  by_cases h : s.answer = 0xFF#8
  · rw [if_pos (show (s.relocated a q).answer = 0xFF#8 from h), if_pos h]
    exact attemptEnd_relocated _ _ a q { s.exchange 0xFF#8 with t0 := waitStart w s }
  · rw [if_neg (show ¬(s.relocated a q).answer = 0xFF#8 from h), if_neg h]
    by_cases h2 : s.toutBusy.toNat ≤ (s.ticks - waitStart w s).toNat
    · rw [if_pos (show (s.relocated a q).toutBusy.toNat ≤ ((s.relocated a q).ticks - waitStart w s).toNat from h2),
        if_pos h2]
      exact attemptEnd_relocated _ _ a q { s.exchange 0xFF#8 with t0 := waitStart w s }
    · rw [if_neg (show ¬(s.relocated a q).toutBusy.toNat ≤ ((s.relocated a q).ticks - waitStart w s).toNat from h2),
        if_neg h2]
      rfl

theorem cmdStep_relocated (idx : BitVec 6) (arg : Word) (kind : RKind) (p : CmdPos) (a : Word) (q : Phase) (s : State) :
    cmdStep idx arg kind p (s.relocated a q) = relocatedCmd a q (cmdStep idx arg kind p s) := by
  cases p with
  | start => exact frameStep_relocated idx arg kind 0 a q { s with attempt := 0#4, status := { s.status with attempts := 0#4 } }
  | frame k => exact frameStep_relocated ..
  | stuff => rfl
  | poll k => exact pollStep_relocated ..
  | tail k cls => exact tailStep_relocated ..
  | busy w cls => exact busyStep_relocated ..
  | resync r => cases r <;> rfl

end Sys2Proof.Machine
end

