-- ==== Sys2Proof/Tests/Slice0.lean ====
section
/-! SUPPORT. Tests with expected results from spec/ (the words and values of 95_test_vectors.md and 30_encoding.md), one
step each, and for every obligation with hypotheses a witness that meets them together. -/

namespace Sys2Proof.Tests

open Sys2Proof Sys2Proof.Machine

/-! ## Helpers -/

/-- A busy machine at the position `p`, with the card's answers scripted. -/
def at_ (p : Phase) (card : List Byte) : State :=
  { State.reset with phase := p, card := card, status := { State.reset.status with busy := true } }

/-- The same with a word in OP. -/
def busyWith (w : Word) (p : Phase) (card : List Byte) : State := { at_ p card with op := w }

/-- The answer is a next state with the property. -/
def gives (r : StepResult) (p : State → Bool) : Bool :=
  match r with
  | .next t => p t
  | .fault _ => false
  | .refused _ => false

/-- The answer is this refusal. -/
def refusedWith (r : StepResult) (why : Refusal) : Bool :=
  match r with
  | .next _ => false
  | .fault _ => false
  | .refused w => w == why

/-! ## WellFormed (30_encoding.md R50: LEN is 1..512, N is 1..1024) -/

theorem test_wf_recvShort_zero : (Instr.recvShort 0#10).wf = false := by decide
theorem test_wf_recvShort_513 : (Instr.recvShort 513#10).wf = false := by decide
theorem test_wf_recvShort_bounds : (Instr.recvShort 1#10).wf = true ∧ (Instr.recvShort 512#10).wf = true := by decide
theorem test_wf_idle_zero : (Instr.idle 0#11).wf = false := by decide
theorem test_wf_idle_1025 : (Instr.idle 1025#11).wf = false := by decide
theorem test_wf_idle_bounds : (Instr.idle 1#11).wf = true ∧ (Instr.idle 1024#11).wf = true := by decide

/-! ## Decoding: words written bit by bit from the formats of 30_encoding.md R49, or given by 95_test_vectors.md -/

theorem test_decode_crcClear : decode 0b00000000000000010000000000000001#32 = .ok (.crcClear true false) := by decide
theorem test_decode_crc7Feed : decode 0b00000000101010100000000000000010#32 = .ok (.crc7Feed 0xAA#8) := by decide
theorem test_decode_crc16Feed : decode 0b00000000001100010000000000000011#32 = .ok (.crc16Feed 0x31#8) := by decide
theorem test_decode_sendCmdNone : decode 0x00000004#32 = .ok (.sendCmdNone 0#6) := by decide
theorem test_decode_sendCmdR1 : decode 0b00000000000000000000010100010100#32 = .ok (.sendCmdR1 17#6) := by decide
theorem test_decode_sendCmdR1B : decode 0x00000A64#32 = .ok (.sendCmdR1B 38#6) := by decide
theorem test_decode_sendCmdR2 : decode 0x00000CD4#32 = .ok (.sendCmdR2 13#6) := by decide
theorem test_decode_sendCmdR3 : decode 0x000013A4#32 = .ok (.sendCmdR3 58#6) := by decide
theorem test_decode_sendCmdR7 : decode 0x00001484#32 = .ok (.sendCmdR7 8#6) := by decide
theorem test_decode_receive : decode 0x00000005#32 = .ok .receive := by decide
theorem test_decode_recvShort : decode 0b00000010000000000000000000000110#32 = .ok (.recvShort 512#10) := by decide
theorem test_decode_transmit : decode 0x00000007#32 = .ok .transmit := by decide
theorem test_decode_transmitM : decode 0x00010007#32 = .ok .transmitM := by decide
theorem test_decode_transmitMF : decode 0x00030007#32 = .ok .transmitMF := by decide
theorem test_decode_waitReady : decode 0x00000008#32 = .ok .waitReady := by decide
theorem test_decode_select : decode 0x00000009#32 = .ok .select := by decide
theorem test_decode_deselect : decode 0x0000000A#32 = .ok .deselect := by decide
theorem test_decode_resync : decode 0x0000000B#32 = .ok .resync := by decide
theorem test_decode_idle : decode 0b00000100000000000000000000001100#32 = .ok (.idle 1024#11) := by decide

/-- 95_test_vectors.md section 2.8: the words that select no row, with the reason of each. -/
theorem test_decode_illegal :
    decode 0x00000000#32 = .error .reservedOpcode ∧ decode 0x0000000D#32 = .error .reservedOpcode ∧
    decode 0x0000000F#32 = .error .reservedOpcode ∧ decode 0x00001804#32 = .error .reservedRkind ∧
    decode 0x00001C04#32 = .error .reservedRkind ∧ decode 0x00002004#32 = .error .reservedBit ∧
    decode 0x00040001#32 = .error .reservedBit ∧ decode 0x01000002#32 = .error .reservedBit ∧
    decode 0x00020007#32 = .error .finalWithoutMulti ∧ decode 0x00000015#32 = .error .reservedBit ∧
    decode 0x80000005#32 = .error .reservedBit ∧ decode 0x00000017#32 = .error .reservedBit := by decide

theorem test_decodeTableWord : decodeTableWord 32 0x000008C4 = some (.sendCmdR1B 12#6) := by decide

/-- The word placed after reset is decoded and started by the very next step (R24, R52). -/
theorem test_withFetchWord :
    gives (step (State.reset.withFetchWord 32 0x00000514)) (fun t => t.phase == .command .start && t.status.busy) = true := by
  decide

/-! ## CRC (95_test_vectors.md sections 2.1 and 2.2) -/

theorem test_crc7_cmd8 : crc7Of [0x48#8, 0x00#8, 0x00#8, 0x01#8, 0xAA#8] = 0x43#7 := by decide +kernel
theorem test_crc7_all_ones : crc7Of [0xFF#8, 0xFF#8, 0xFF#8, 0xFF#8, 0xFF#8] = 0x11#7 := by decide +kernel
theorem test_crc16_digits :
    crc16Of [0x31#8, 0x32#8, 0x33#8, 0x34#8, 0x35#8, 0x36#8, 0x37#8, 0x38#8, 0x39#8] = 0x31C3#16 := by decide +kernel
theorem test_t7_t16 : t7 0xFF#8 = 0x79#7 ∧ t16 0x80#8 = 0x9188#16 ∧ t16 0xFF#8 = 0x1EF0#16 := by decide +kernel

/-- V-CRC1: only CRC7 is cleared. -/
theorem test_crcClear_c7 :
    gives (exec (.crcClear true false) { at_ .update [] with crc7 := 0x4A#7, crc16 := 0x7FA1#16 })
      (fun t => t.crc7 == 0x00#7 && t.crc16 == 0x7FA1#16) = true := by decide
/-- V-CRC7. -/
theorem test_crc7Feed :
    gives (exec (.crc7Feed 0x00#8) { at_ .update [] with crc7 := 0x7F#7 }) (fun t => t.crc7 == 0x70#7) = true := by decide
/-- V-CRC10 and V-CRC12. -/
theorem test_crc16Feed :
    gives (exec (.crc16Feed 0x00#8) { at_ .update [] with crc7 := 0x4A#7, crc16 := 0xFFFF#16 })
      (fun t => t.crc16 == 0xE1F0#16 && t.crc7 == 0x4A#7) = true := by decide

/-! ## SEND_CMD (95_test_vectors.md section 2.3) -/

/-- Table 2.1, CMD0: the frame of SEND_CMD.NONE ends with 0x95 when CRC7 holds 0x4A. -/
theorem test_sendCmdNone_last_byte :
    gives (exec (.sendCmdNone 0#6) { at_ (.command (.frame 5)) [0xFF#8] with crc7 := 0x4A#7 })
      (fun t => t.wire == [.xchg false 0x95#8 0xFF#8] && t.phase == .finish .noError .ok) = true := by decide
/-- V-SC1j: R1 = 0x20 is ON_DRIVE/NACK, not retried. -/
theorem test_sendCmdR1_nack :
    gives (exec (.sendCmdR1 17#6) (at_ (.command (.poll 0)) [0x20#8]))
      (fun t => t.resp == 0x20#8 && t.phase == .finish .onDrive .nack) = true := by decide
/-- V-SC1i, first attempt: 0x4C & 0xBB = 0x08, class CRC, retried. -/
theorem test_sendCmdR1_cmd12_mask :
    gives (exec (.sendCmdR1 12#6) (at_ (.command (.poll 0)) [0x4C#8]))
      (fun t => t.resp == 0x08#8 && t.phase == .command (.resync .low) && t.status.attempts == 1#4) = true := by decide
/-- V-SC1Bc: with TOUT_BUSY = 0 a first busy byte other than 0xFF times out at once. -/
theorem test_sendCmdR1B_timeout :
    gives (exec (.sendCmdR1B 12#6) { at_ (.command (.busy .first .ok)) [0x00#8] with toutBusy := 0#32 })
      (fun t => t.phase == .finish .onDrive .timeout) = true := by decide
/-- V-SC2a: the tail byte 0x20. -/
theorem test_sendCmdR2_tail :
    gives (exec (.sendCmdR2 13#6) { at_ (.command (.tail 0 .ok)) [0x20#8] with respx := 0xFFFFFFFF#32 })
      (fun t => t.respx == 0x00000020#32 && t.phase == .finish .noError .ok) = true := by decide
/-- V-SC3a: the fourth tail byte of the OCR. -/
theorem test_sendCmdR3_tail :
    gives (exec (.sendCmdR3 58#6) { at_ (.command (.tail 3 .ok)) [0x00#8] with respx := 0x00C0FF80#32 })
      (fun t => t.respx == 0xC0FF8000#32 && t.phase == .finish .noError .ok) = true := by decide
/-- V-SC7b: the tail is read after an error R1 and the class is reported. -/
theorem test_sendCmdR7_tail :
    gives (exec (.sendCmdR7 8#6) { at_ (.command (.tail 3 .error)) [0xFF#8] with respx := 0x00FFFFFF#32 })
      (fun t => t.respx == 0xFFFFFFFF#32 && t.phase == .finish .onDrive .error) = true := by decide

/-! ## Data (95_test_vectors.md sections 2.4 to 2.6) -/

/-- V-RX5: the data-error token 0x08. -/
theorem test_receive_data_error :
    gives (exec .receive (at_ (.recv 0 (.token .first)) [0x08#8]))
      (fun t => t.dtoken == 0x08#8 && t.status.derr == 8#4 &&
        t.phase == .recvFailed ⟨.invalidSector, .error, false⟩) = true := by decide
/-- V-RX1: a data byte at the top of the address space goes to `(ADDR + j) mod 2^32` (R37). -/
theorem test_receive_store_wraps :
    gives (exec .receive { at_ (.recv 0 (.data 3)) [0xA5#8] with addr := 0xFFFFFFFE#32 })
      (fun t => t.mem == [(1, 0xA5#8)] && t.phase == .recv 0 (.data 4)) = true := by decide
/-- V-RS1: the low CRC byte of the packet 00 00 00 05. -/
theorem test_recvShort_good :
    gives (exec (.recvShort 4#10)
        { at_ (.recv 0 .crcLo) [0xA5#8] with crc16 := 0x50A5#16, crc16Rx := 0x5000#16, addr := 0x20000400#32 })
      (fun t => t.addr == 0x20000404#32 && t.xfer == 1#16 && t.phase == .finish .noError .ok) = true := by decide
/-- V-RS3: CRC16_RX 0x50A4 against 0x50A5. -/
theorem test_recvShort_bad :
    gives (exec (.recvShort 4#10)
        { at_ (.recv 0 .crcLo) [0xA4#8] with crc16 := 0x50A5#16, crc16Rx := 0x5000#16, addr := 0x20000400#32 })
      (fun t => t.addr == 0x20000400#32 && t.xfer == 0#16 && t.crc16Rx == 0x50A4#16 &&
        t.phase == .recvFailed ⟨.read, .crc, true⟩) = true := by decide
/-- V-TX1: the accepted single block. -/
theorem test_transmit_accepted :
    gives (exec .transmit { at_ (.send 0 .response) [0xE5#8] with count := 1#16, addr := 0x20000000#32 })
      (fun t => t.addr == 0x20000200#32 && t.xfer == 1#16 && t.dtoken == 0xE5#8 && t.phase == .needsCheck) = true := by
  decide
/-- V-TX7: COUNT = 2 is illegal in the decode step. -/
theorem test_transmit_count :
    gives (exec .transmit { at_ .decode [] with count := 2#16 })
      (fun t => t.status.err == .illegalOp && t.status.cls == .illegal && t.phase == .idle) = true := by decide
/-- V-TXM1: the start token of a stream is 0xFC. -/
theorem test_transmitM_token :
    gives (exec .transmitM (at_ (.send 0 .token) [0x00#8]))
      (fun t => t.wire == [.xchg false 0xFC#8 0x00#8]) = true := by decide
/-- V-TXM2: 0x0B mid-stream goes to the stop sequence and leaves ADDR. -/
theorem test_transmitM_rejected :
    gives (exec .transmitM { at_ (.send 1 .response) [0x0B#8] with count := 3#16, addr := 0x20000200#32, xfer := 1#16 })
      (fun t => t.addr == 0x20000200#32 && t.xfer == 1#16 && t.status.retryable && t.status.needsCheck &&
        t.phase == .stop (some ⟨.write, .crc, true⟩) (.ready .first)) = true := by decide
/-- V-TXMF1: the Stop Tran token. -/
theorem test_transmitMF_stop :
    gives (exec .transmitMF (at_ (.stop none .token) [0x00#8]))
      (fun t => t.wire == [.xchg false 0xFD#8 0x00#8] && t.phase == .stop none .stuff) = true := by decide

/-! ## Bus control (95_test_vectors.md section 2.7) -/

/-- V-BUS3: TOUT_BUSY = 0 is a single probe. -/
theorem test_waitReady_probe :
    gives (exec .waitReady { at_ (.waitReady .first) [0x7F#8] with toutBusy := 0#32 })
      (fun t => t.phase == .finish .onDrive .timeout) = true := by decide
/-- V-BUS4. -/
theorem test_select :
    gives (exec .select (at_ .chipSelect [])) (fun t => t.cs && t.wire == [.cs true]) = true := by decide
/-- V-BUS5. -/
theorem test_deselect :
    gives (exec .deselect { at_ .chipSelect [] with cs := true }) (fun t => !t.cs && t.wire == [.cs false]) = true := by
  decide
/-- V-BUS8, the middle action: `X(0, FF, 00)`. -/
theorem test_resync_clock :
    gives (exec .resync (at_ (.resync .clock) [0x00#8]))
      (fun t => t.wire == [.xchg false 0xFF#8 0x00#8] && t.phase == .resync .high) = true := by decide
/-- V-BUS7: the tenth byte of IDLE N = 10 is the last. -/
theorem test_idle_last :
    gives (exec (.idle 10#11) (at_ (.idleByte 9) [0x55#8]))
      (fun t => t.wire == [.xchg false 0xFF#8 0x55#8] && t.phase == .finish .noError .ok) = true := by decide

/-! ## The host and the whole machine -/

/-- V-BUS10: a write of ADDR while BUSY only sets REJ. -/
theorem test_write_while_busy :
    gives (hostStep (.regWrite .word 0x10#32 0#32) { at_ .decode [] with addr := 0x20000000#32 })
      (fun t => t.addr == 0x20000000#32 && t.status.rej) = true := by decide
/-- 20_memory.md R32: a byte access has no meaning. -/
theorem test_byte_access_refused :
    refusedWith (hostStep (.regRead .byte 0x00#32) State.reset) .undefinedRegisterAccess = true := by decide
/-- V-TXM2: the STATUS word 0x0000_3A3A. -/
theorem test_status_word :
    statusWord
      { busy := false, done := true, rej := false, err := .write, cls := .crc, retryable := true, needsCheck := true,
        stopped := true, derr := 0#4, attempts := 0#4 } true = 0x00003A3A#32 := by decide
/-- V-SC1b: the STATUS word 0x0030_031A; V-RX5: 0x0008_245A. -/
theorem test_status_word_fields :
    statusWord
      { busy := false, done := true, rej := false, err := .onDrive, cls := .timeout, retryable := false,
        needsCheck := false, stopped := false, derr := 0#4, attempts := 3#4 } true = 0x0030031A#32 ∧
    statusWord
      { busy := false, done := true, rej := false, err := .invalidSector, cls := .error, retryable := false,
        needsCheck := false, stopped := true, derr := 8#4, attempts := 0#4 } true = 0x0008245A#32 := by decide
/-- 10_state.md R11: the reset value of CTRL. -/
theorem test_ctrl_word : State.reset.ctrl.word = 0x00000030#32 := by decide
/-- 20_memory.md R36: the data byte's address is not backed. -/
theorem test_unbacked :
    (match exec .transmit
        { at_ (.send 0 (.data 0)) [0x00#8] with count := 1#16, holes := [⟨0#32, 1⟩] } with
      | .fault .unbackedAccess => true
      | .next _ => false
      | .refused _ => false) = true := by decide
/-- Writing what an unlisted byte reads as removes the entry (canonical form). -/
theorem test_memory_canonical :
    Memory.write [(3, 7#8), (5, 9#8)] 5 0#8 = [(3, 7#8)] ∧ Memory.write [(3, 7#8)] 1 2#8 = [(1, 2#8), (3, 7#8)] := by
  decide

/-! ## Witnesses: a concrete state and operands that meet the hypotheses of each obligation, each clause at a boundary -/

theorem witness_DecodeAndEncodeAreInverse : decode 0x0400000C#32 = .ok (.idle 1024#11) := by decide

theorem witness_DecodeFollowsTheOneRowThatSelects :
    (∃ r ∈ opcodeMap, r.selects 0x00030007#32 = true) ∧ (∀ r ∈ opcodeMap, r.selects 0x00020007#32 = false) := by decide

theorem witness_OperandsAreTheirFieldsBits :
    decode 0x00020001#32 = .ok (.crcClear false true) ∧ decode 0x00FF0002#32 = .ok (.crc7Feed 0xFF#8) ∧
    decode 0x00FF0003#32 = .ok (.crc16Feed 0xFF#8) ∧
    (decode 0x000003F4#32 = .ok (.sendCmdNone 63#6) ∧ commandOf (.sendCmdNone 63#6) = some (.noResp, 63#6)) ∧
    decode 0x03FF0006#32 = .ok (.recvShort 1023#10) ∧ decode 0x07FF000C#32 = .ok (.idle 2047#11) := by decide

theorem witness_DecodeStepChecksLegality :
    (busyWith 0x02010006#32 .decode []).phase = .decode ∧
    legalWord 0x02010006#32 0#16 = false ∧ legalWord 0x02000006#32 0#16 = true ∧
    legalWord 0x0401000C#32 0#16 = false ∧ legalWord 0x0400000C#32 0#16 = true ∧
    legalWord 0x00000007#32 2#16 = false ∧ legalWord 0x00000007#32 1#16 = true ∧
    legalWord 0x00000000#32 0#16 = false := by decide

theorem witness_CrcIsLinear : ([0x12#8, 0x34#8] : List Byte).length = [0x56#8, 0xFF#8].length := by decide

theorem witness_SingleBitErrorChangesTheCrc : (0 : Nat) < 8 ∧ (7 : Nat) < 8 := by decide

theorem witness_CrcOperationsUpdateTheirRegister :
    (at_ .update []).phase = .update ∧ (at_ .decode []).phase = .decode ∧
    0x00030001#32 &&& 0xFFFCFFFF#32 = 0x00000001#32 ∧ 0x00FF0002#32 &&& 0xFF00FFFF#32 = 0x00000002#32 ∧
    0x00FF0003#32 &&& 0xFF00FFFF#32 = 0x00000003#32 := by decide

theorem witness_SendCmdNoneSendsOnlyTheFrame : (at_ .decode [1#8, 2#8, 3#8, 4#8, 5#8, 6#8]).phase = .decode := by decide

theorem witness_CommandAttemptSendsItsFrame :
    commandOf (.sendCmdR1B 12#6) = some (.r1b, 12#6) ∧ commandOf (.sendCmdNone 0#6) = some (.noResp, 0#6) ∧
    RKind.r1b ≠ .noResp ∧ (at_ (.command .start) []).phase = .command .start ∧
    (at_ (.command (.frame 0)) []).phase = .command (.frame 0) ∧
    (4 < 5 ∧ (at_ (.command (.frame 4)) []).phase = .command (.frame 4)) ∧
    (at_ (.command (.frame 5)) []).phase = .command (.frame 5) := by decide

theorem witness_R1ClassificationHasItsPriority :
    (0x7F#8).getLsbD 3 = true ∧ ((0x77#8).getLsbD 3 = false ∧ (0x77#8).getLsbD 2 = true) ∧
    ((0x73#8).getLsbD 3 = false ∧ (0x73#8).getLsbD 2 = false ∧ (0x73#8).getLsbD 4 = true) ∧
    ((0x63#8).getLsbD 3 = false ∧ (0x63#8).getLsbD 2 = false ∧ (0x63#8).getLsbD 4 = false ∧
      (0x63#8).getLsbD 5 = true) ∧ 0x83#8 &&& 0x7C#8 = 0#8 := by decide

theorem witness_PollByteDecidesTheAttempt :
    commandOf (.sendCmdR1 17#6) = some (.r1, 17#6) ∧ RKind.r1 ≠ .noResp ∧ commandOf (.sendCmdR2 13#6) = some (.r2, 13#6) ∧
    commandOf (.sendCmdR1B 12#6) = some (.r1b, 12#6) ∧
    (let s := at_ (.command (.poll 6)) [0x80#8];
      s.phase = .command (.poll 6) ∧ s.answer.getLsbD 7 = true ∧ 6 < 7) ∧
    (let s := at_ (.command (.poll 7)) [0xFF#8];
      s.phase = .command (.poll 7) ∧ s.answer.getLsbD 7 = true ∧ s.attempt.toNat < s.ctrl.cmdRetry.toNat) ∧
    (let s := { at_ (.command (.poll 7)) [0xFF#8] with attempt := 3#4 };
      s.answer.getLsbD 7 = true ∧ s.ctrl.cmdRetry.toNat ≤ s.attempt.toNat) ∧
    (let s := at_ (.command (.poll 7)) [0x7F#8];
      s.answer.getLsbD 7 = false ∧ classifyR1 s.answer = .crc ∧ s.attempt.toNat < s.ctrl.cmdRetry.toNat) ∧
    (let s := at_ (.command (.poll 0)) [0x04#8];
      s.answer.getLsbD 7 = false ∧
        ¬(classifyR1 s.answer = .crc ∧ s.attempt.toNat < s.ctrl.cmdRetry.toNat)) := by decide

theorem witness_TailAndBusyWaitEndTheAttempt :
    (commandOf (.sendCmdR2 13#6) = some (.r2, 13#6) ∧
      (at_ (.command (.tail 0 .ok)) [0x20#8]).phase = .command (.tail 0 .ok)) ∧
    (commandOf (.sendCmdR3 58#6) = some (.r3, 58#6) ∧ 3 < 4 ∧
      (at_ (.command (.tail 3 .crc)) [0x00#8]).phase = .command (.tail 3 .crc)) ∧
    (commandOf (.sendCmdR7 8#6) = some (.r7, 8#6) ∧ 0 < 4 ∧
      (at_ (.command (.tail 0 .crc)) [0x00#8]).phase = .command (.tail 0 .crc)) ∧
    (commandOf (.sendCmdR1B 12#6) = some (.r1b, 12#6) ∧
      (at_ (.command (.busy .first .ok)) [0x00#8]).phase = .command (.busy .first .ok)) := by decide

theorem witness_StuffByteAndResyncLeadToTheirNext :
    commandOf (.sendCmdR1B 12#6) = some (.r1b, 12#6) ∧ (at_ (.command .stuff) [0x3F#8]).phase = .command .stuff ∧
    (at_ (.command (.resync .low)) [0xFF#8]).phase = .command (.resync .low) := by decide

/-- V-SC1e at the boundary of 7 stray bytes, V-SC3a for a tail, and V-SC1Ba for a busy card. -/
theorem witness_SendCmdSucceedsOnAGoodResponse :
    (∃ s : State, s.phase = .decode ∧ commandOf (.sendCmdR1 0#6) = some (.r1, 0#6) ∧ RKind.r1 ≠ .noResp ∧
      (List.replicate 6 0xFF#8 : List Byte).length = 6 ∧ ([] : List Byte).length = (if 0#6 = 12#6 then 1 else 0) ∧
      (List.replicate 7 0xFF#8 : List Byte).length ≤ 7 ∧ (∀ b ∈ (List.replicate 7 0xFF#8 : List Byte), b.getLsbD 7 = true) ∧
      (0x00#8).getLsbD 7 = false ∧ classifyR1 (maskR1 0#6 0x00#8) = .ok ∧ ([] : List Byte).length = tailBytes .r1 ∧
      s.card = List.replicate 6 0xFF#8 ++ [] ++ List.replicate 7 0xFF#8 ++ [0x00#8] ++ [] ++ [] ++ []) ∧
    (∃ s : State, s.phase = .decode ∧ commandOf (.sendCmdR3 58#6) = some (.r3, 58#6) ∧
      ([0xC0#8, 0xFF#8, 0x80#8, 0x00#8] : List Byte).length = tailBytes .r3 ∧
      s.card = List.replicate 6 0xFF#8 ++ [] ++ [0xFF#8] ++ [0x00#8] ++ [0xC0#8, 0xFF#8, 0x80#8, 0x00#8] ++ [] ++ []) ∧
    (∃ s : State, s.phase = .decode ∧ commandOf (.sendCmdR1B 12#6) = some (.r1b, 12#6) ∧
      ([0x3F#8] : List Byte).length = (if 12#6 = 12#6 then 1 else 0) ∧ (0x40#8).getLsbD 7 = false ∧
      classifyR1 (maskR1 12#6 0x40#8) = .ok ∧ (∀ b ∈ ([0x00#8, 0x00#8] : List Byte), b ≠ 0xFF#8) ∧
      s.toutBusy ≠ 0#32 ∧
      s.card = List.replicate 6 0xFF#8 ++ [0x3F#8] ++ [0xFF#8] ++ [0x40#8] ++ [] ++
        ([0x00#8, 0x00#8] ++ [0xFF#8]) ++ []) :=
  ⟨⟨at_ .decode (List.replicate 6 0xFF#8 ++ [] ++ List.replicate 7 0xFF#8 ++ [0x00#8] ++ [] ++ [] ++ []), by decide⟩,
    ⟨at_ .decode (List.replicate 6 0xFF#8 ++ [] ++ [0xFF#8] ++ [0x00#8] ++ [0xC0#8, 0xFF#8, 0x80#8, 0x00#8] ++ [] ++ []),
      by decide⟩,
    ⟨at_ .decode (List.replicate 6 0xFF#8 ++ [0x3F#8] ++ [0xFF#8] ++ [0x40#8] ++ [] ++
        ([0x00#8, 0x00#8] ++ [0xFF#8]) ++ []), by decide⟩⟩

theorem witness_SilentCardExhaustsTheRetries :
    ∃ s : State, 0#6 ≠ 12#6 ∧ s.phase = .decode ∧
      s.card = List.replicate (14 * (s.ctrl.cmdRetry.toNat + 1) + s.ctrl.cmdRetry.toNat) 0xFF#8 ++ [0x01#8] :=
  ⟨at_ .decode (List.replicate 59 0xFF#8 ++ [0x01#8]), by decide, rfl, rfl⟩

theorem witness_SendCmdFrame :
    ∃ s t : State, commandOf (.sendCmdNone 0#6) = some (.noResp, 0#6) ∧ exec (.sendCmdNone 0#6) s = .next t ∧
      s.inv = true ∧ decode s.op = .ok (.sendCmdNone 0#6) :=
  ⟨busyWith 0x00000004#32 (.command (.frame 5)) [0xFF#8], _, by decide, rfl, by decide, by decide⟩

theorem witness_StartTokenIsRecognised :
    packetLength .receive = some 512 ∧ 0 < 512 ∧ packetLength (.recvShort 1#10) = some 1 ∧
    (at_ (.recv 0 (.token .first)) []).phase = .recv 0 (.token .first) ∧
    (let s := at_ (.recv 0 (.token .again)) [0xFF#8];
      s.answer = 0xFF#8 ∧ (s.ticks - s.t0).toNat < s.toutRead.toNat) ∧
    (let s := { at_ (.recv 0 (.token .again)) [0xFF#8] with ticks := 100#32 };
      s.answer = 0xFF#8 ∧ s.toutRead.toNat ≤ (s.ticks - s.t0).toNat) ∧
    (at_ (.recv 0 (.token .first)) [0xFE#8]).answer = 0xFE#8 ∧
    (at_ (.recv 0 (.token .first)) [0x0F#8]).answer.toNat < 0x10 ∧
    (let s := at_ (.recv 0 (.token .first)) [0x10#8];
      0x10 ≤ s.answer.toNat ∧ s.answer ≠ 0xFE#8 ∧ s.answer ≠ 0xFF#8) := by decide

theorem witness_PacketBytesAreStoredAndChecked :
    packetLength .receive = some 512 ∧
    (let s := at_ (.recv 0 (.data 511)) [0xA5#8];
      s.phase = .recv 0 (.data 511) ∧ s.backed (dataAddr s 511) = true) ∧
    (let s := { at_ (.recv 0 (.data 511)) [0xA5#8] with holes := [⟨511#32, 1⟩] };
      s.phase = .recv 0 (.data 511) ∧ s.backed (dataAddr s 511) = false) ∧
    (at_ (.recv 0 .crcHi) [0x7F#8]).phase = .recv 0 .crcHi ∧
    (let s := { at_ (.recv 0 .crcLo) [0xA1#8] with crc16 := 0x7FA1#16, crc16Rx := 0x7F00#16 };
      s.phase = .recv 0 .crcLo ∧ s.crc16Rx ||| s.answer.setWidth 16 = s.crc16) ∧
    (let s := { at_ (.recv 0 .crcLo) [0xA0#8] with crc16 := 0x7FA1#16, crc16Rx := 0x7F00#16 };
      s.phase = .recv 0 .crcLo ∧ s.crc16Rx ||| s.answer.setWidth 16 ≠ s.crc16) := by decide

theorem witness_RecvShortStoresAGoodPacket :
    ∃ s : State, (Instr.recvShort 1#10).wf = true ∧ s.phase = .decode ∧ s.mem.wf = true ∧
      ([0x00#8] : List Byte).length = (1#10).toNat ∧ (∀ a, s.backed a = true) ∧ s.toutRead ≠ 0#32 ∧
      s.card = List.replicate 2 0xFF#8 ++ goodPacket [0x00#8] ++ [] :=
  ⟨at_ .decode (List.replicate 2 0xFF#8 ++ goodPacket [0x00#8] ++ []), by decide, rfl, rfl, rfl, fun _ => rfl, by decide,
    rfl⟩

theorem witness_ReceiveStoresEveryGoodBlock :
    ∃ s : State, s.phase = .decode ∧ s.mem.wf = true ∧ (∀ a, s.backed a = true) ∧
      [List.replicate 512 (0x00#8 : Byte)].length = s.count.toNat ∧
      (∀ b ∈ [List.replicate 512 (0x00#8 : Byte)], b.length = 512) ∧
      s.card = ([List.replicate 512 (0x00#8 : Byte)].map goodPacket).flatten ++ [] :=
  ⟨{ at_ .decode (([List.replicate 512 (0x00#8 : Byte)].map goodPacket).flatten ++ []) with count := 1#16 }, rfl, rfl,
    fun _ => rfl, rfl, fun _ hb => List.mem_singleton.mp hb ▸ List.length_replicate, rfl⟩

theorem witness_FailedReceiveStopsTheCard :
    ∃ s : State, s.phase = .recvFailed crcFailure ∧ (List.replicate 6 0xFF#8 : List Byte).length = 6 ∧
      (List.replicate 7 0xFF#8 : List Byte).length ≤ 7 ∧ (∀ b ∈ (List.replicate 7 0xFF#8 : List Byte), b.getLsbD 7 = true) ∧
      (0x00#8).getLsbD 7 = false ∧ classifyR1 (0x00#8 &&& 0xBB#8) ≠ .crc ∧
      (∀ b ∈ ([0x00#8] : List Byte), b ≠ 0xFF#8) ∧ s.toutBusy ≠ 0#32 ∧
      s.card = List.replicate 6 0xFF#8 ++ [0x3F#8] ++ List.replicate 7 0xFF#8 ++ [0x00#8] ++ [0x00#8] ++ [0xFF#8] ++ [] :=
  ⟨at_ (.recvFailed crcFailure)
      (List.replicate 6 0xFF#8 ++ [0x3F#8] ++ List.replicate 7 0xFF#8 ++ [0x00#8] ++ [0x00#8] ++ [0xFF#8] ++ []), by decide⟩

/-- The first two clauses: a busy card before the timeout of the stop's wait, and V-RX9's silent card. -/
theorem witness_FailedReceiveStopsTheCard_paths :
    (at_ (.autoStop crcFailure (.busy .again .crc)) [0x00#8]).phase = .autoStop crcFailure (.busy .again .crc) ∧
    (∃ u, exec (.sendCmdR1B 12#6)
        { at_ (.autoStop crcFailure (.poll 7)) [0xFF#8] with arg := 0#32, phase := .command (.poll 7) } = .next u ∧
      u.phase = .command (.resync .low)) ∧
    (∃ u, exec (.sendCmdR1B 12#6)
        { at_ (.autoStop crcFailure (.busy .first .ok)) [0xFF#8] with
          arg := 0#32, phase := .command (.busy .first .ok) } = .next u ∧ u.phase = .finish .noError .ok) ∧
    (∃ u, exec (.sendCmdR1B 12#6)
        { at_ (.autoStop crcFailure (.poll 7)) [0xFF#8] with
          arg := 0#32, phase := .command (.poll 7), attempt := 3#4 } = .next u ∧ u.phase = .finish .onDrive .timeout) ∧
    (∃ s : State, s.phase = .recvFailed crcFailure ∧
      s.card = List.replicate (15 * (s.ctrl.cmdRetry.toNat + 1) + s.ctrl.cmdRetry.toNat) 0xFF#8 ++ [0x01#8]) :=
  ⟨rfl, ⟨_, rfl, rfl⟩, ⟨_, rfl, rfl⟩, ⟨_, rfl, rfl⟩,
    ⟨at_ (.recvFailed crcFailure) (List.replicate 63 0xFF#8 ++ [0x01#8]), rfl, rfl⟩⟩

theorem witness_FailedRecvShortSendsNoStop : (at_ (.recvFailed tokenTimeout) []).phase = .recvFailed tokenTimeout := by
  decide

theorem witness_DataOperationsClearXfer :
    (at_ .clearXfer []).phase = .clearXfer ∧ (at_ .clearXfer []).count = 0#16 ∧
    ({ at_ .clearXfer [] with count := 1#16 } : State).count ≠ 0#16 := by decide

theorem witness_ReadOperationsFrame :
    ∃ s t : State, packetLength (.recvShort 1#10) = some 1 ∧ exec (.recvShort 1#10) s = .next t ∧
      s.phase = .recv 0 (.data 0) ∧ s.mem.wf = true ∧ Instr.recvShort 1#10 ≠ .receive :=
  ⟨at_ (.recv 0 (.data 0)) [0xA5#8], _, by decide, rfl, rfl, rfl, by decide⟩

theorem witness_ReadOperationsFrame_other_positions :
    ∃ s t : State, packetLength .receive = some 512 ∧ exec .receive s = .next t ∧ (∀ k j, s.phase ≠ .recv k (.data j)) ∧
      (∀ f, s.phase ≠ .recvFailed f) ∧ (∀ f p, s.phase ≠ .autoStop f p) :=
  ⟨at_ .clearXfer [], _, by decide, rfl, by simp [at_], by simp [at_], by simp [at_]⟩

theorem witness_WrittenBlockIsSentByteByByte :
    writeOf .transmitMF = some (true, true) ∧ writeOf .transmit = some (false, false) ∧
    (at_ (.send 0 (.ready .first)) [0x00#8]).phase = .send 0 (.ready .first) ∧
    (at_ (.send 0 .token) []).phase = .send 0 .token ∧
    (let s := at_ (.send 0 (.data 511)) [];
      s.phase = .send 0 (.data 511) ∧ s.backed (dataAddr s 511) = true) ∧
    (let s := { at_ (.send 0 (.data 0)) [] with holes := [⟨0#32, 1⟩] };
      s.phase = .send 0 (.data 0) ∧ s.backed (dataAddr s 0) = false) ∧
    (at_ (.send 0 .crcHi) []).phase = .send 0 .crcHi ∧ (at_ (.send 0 .crcLo) []).phase = .send 0 .crcLo := by decide

theorem witness_DataResponseIsRecognised :
    writeOf .transmitM = some (true, false) ∧ (at_ (.send 0 .response) [0xE5#8]).phase = .send 0 .response ∧
    (at_ (.send 0 .response) [0xE5#8]).answer.toNat % 32 = 0x05 ∧
    (at_ (.send 0 .response) [0x0B#8]).answer.toNat % 32 ≠ 0x05 := by decide

theorem witness_StopSequenceEndsAMultipleWrite :
    writeOf .transmitM = some (true, false) ∧
    (at_ (.stop none (.ready .first)) [0x00#8]).phase = .stop none (.ready .first) ∧
    (at_ (.stop (some crcFailure) .token) []).phase = .stop (some crcFailure) .token ∧
    (at_ (.stop none .stuff) []).phase = .stop none .stuff ∧
    (at_ (.stopFailed crcFailure) []).phase = .stopFailed crcFailure ∧ (at_ .needsCheck []).phase = .needsCheck := by decide

theorem witness_TransmitSendsOneBlock :
    ∃ s : State, s.phase = .decode ∧ s.count = 1#16 ∧ (∀ a, s.backed a = true) ∧
      (List.replicate 515 0x00#8 : List Byte).length = 515 ∧ (0xE5#8).toNat % 32 = 5 ∧
      s.card = [0xFF#8] ++ List.replicate 515 0x00#8 ++ [0xE5#8] ++ [] :=
  ⟨{ at_ .decode ([0xFF#8] ++ List.replicate 515 0x00#8 ++ [0xE5#8] ++ []) with count := 1#16 }, rfl, rfl, fun _ => rfl,
    List.length_replicate, by decide, rfl⟩

theorem witness_TransmitMStreamsEveryBlock :
    ∃ (s : State) (answers : List (List Byte)), s.phase = .decode ∧ (∀ a, s.backed a = true) ∧
      answers.length = s.count.toNat ∧
      (∀ l ∈ answers, ∃ during dr, l = [0xFF#8] ++ during ++ [dr] ∧ during.length = 515 ∧ dr.toNat % 32 = 5) ∧
      answers ≠ [] ∧ s.card = answers.flatten ++ [] :=
  ⟨{ at_ .decode ([[0xFF#8] ++ List.replicate 515 0x00#8 ++ [0x05#8]].flatten ++ []) with count := 1#16 },
    [[0xFF#8] ++ List.replicate 515 0x00#8 ++ [0x05#8]], rfl, fun _ => rfl, rfl,
    fun l hl => ⟨List.replicate 515 0x00#8, 0x05#8, List.mem_singleton.mp hl, List.length_replicate, by decide⟩,
    List.cons_ne_nil _ _, rfl⟩

theorem witness_TransmitMFWithNoBlockOnlyStops :
    ∃ s : State, s.phase = .decode ∧ s.count = 0#16 ∧ (∀ x ∈ ([0x00#8] : List Byte), x ≠ 0xFF#8) ∧ s.toutBusy ≠ 0#32 ∧
      s.card = [0x00#8] ++ [0xFF#8, 0x01#8, 0x02#8] ++ [] :=
  ⟨at_ .decode ([0x00#8] ++ [0xFF#8, 0x01#8, 0x02#8] ++ []), by decide⟩

theorem witness_WriteOperationsFrame :
    ∃ s t : State, writeOf .transmit = some (false, false) ∧ exec .transmit s = .next t ∧
      (∀ k, s.phase ≠ .send k .response) ∧ s.phase ≠ .clearXfer :=
  ⟨at_ (.send 0 (.data 0)) [0xFF#8], _, by decide, rfl, by simp [at_], by decide⟩

theorem witness_AddrDeltaIsBlocksTransferred :
    ∃ s t : State, blockBytes .transmitM = some 512#32 ∧ legalOp .transmitM s.count = true ∧ s.phase = .decode ∧
      execRun .transmitM (1 + 2) s = .next t ∧ s.count = 1#16 :=
  ⟨{ at_ .decode [0xFF#8] with count := 1#16 }, _, by decide, by decide, rfl, rfl, rfl⟩

theorem witness_ChipSelectOperationsDriveTheLine :
    (at_ .chipSelect []).phase = .chipSelect ∧ (at_ .decode []).phase = .decode ∧
    (at_ (.resync .low) []).phase = .resync .low ∧ (at_ (.resync .clock) []).phase = .resync .clock ∧
    (at_ (.resync .high) []).phase = .resync .high := by decide

theorem witness_IdleExchangesNBytes :
    (at_ (.idleByte 1023) []).phase = .idleByte 1023 ∧ (Instr.idle 1024#11).wf = true ∧ (Instr.idle 1#11).wf = true ∧
    (at_ .decode []).phase = .decode := by decide

theorem witness_WaitReadyWaitsForTheCard :
    (at_ (.waitReady .again) [0x00#8]).phase = .waitReady .again ∧
    (∃ s : State, s.phase = .decode ∧ (∀ b ∈ ([0x00#8, 0xFE#8] : List Byte), b ≠ 0xFF#8) ∧ s.toutBusy ≠ 0#32 ∧
      s.card = [0x00#8, 0xFE#8] ++ [0xFF#8] ++ []) ∧
    (∃ s : State, s.phase = .decode ∧ s.toutBusy = 0#32 ∧ s.answer ≠ 0xFF#8) :=
  ⟨rfl, ⟨at_ .decode ([0x00#8, 0xFE#8] ++ [0xFF#8] ++ []), by decide⟩,
    ⟨{ at_ .decode [0x7F#8] with toutBusy := 0#32 }, by decide⟩⟩

theorem witness_CrcAndBusOperationsFrame :
    ∃ s t : State, commandOf .resync = none ∧ packetLength .resync = none ∧ writeOf .resync = none ∧
      exec .resync s = .next t ∧ (∀ c7 c16, Instr.resync ≠ .crcClear c7 c16) ∧ (∀ b, Instr.resync ≠ .crc7Feed b) ∧
      (∀ b, Instr.resync ≠ .crc16Feed b) :=
  ⟨at_ (.resync .clock) [0x00#8], _, rfl, rfl, rfl, rfl, by simp, by simp, by simp⟩

theorem witness_CrcAndBusOperationsFrame_crc :
    ∃ s t : State, commandOf (.crcClear false false) = none ∧ packetLength (.crcClear false false) = none ∧
      writeOf (.crcClear false false) = none ∧ exec (.crcClear false false) s = .next t ∧
      ∃ c7 c16, Instr.crcClear false false = .crcClear c7 c16 :=
  ⟨at_ .update [], _, rfl, rfl, rfl, rfl, _, _, rfl⟩

theorem witness_FinishWritesTheRecordAndStops :
    (at_ (.finish .invalidSector .error) []).phase = .finish .invalidSector .error := by decide

theorem witness_EveryCompletionIsInTheTable :
    (∃ s t : State, s.inv = true ∧ step s = .next t ∧ s.status.busy = true ∧ t.status.busy = false ∧
      s.sched.head? ≠ some .reset ∧ s.phase ≠ .decode) ∧
    (∃ s t : State, s.inv = true ∧ step s = .next t ∧ s.status.busy = true ∧ t.status.busy = false ∧ s.phase = .decode) :=
  ⟨⟨busyWith 0x00000008#32 (.finish .onDrive .timeout) [], _, by decide, rfl, rfl, rfl, by decide, by decide⟩,
    ⟨busyWith 0x00000000#32 .decode [], _, by decide, rfl, rfl, rfl, rfl⟩⟩

theorem witness_DoneRisesOnlyAtFinish :
    ∃ s t : State, step s = .next t ∧ s.status.done = false ∧ t.status.done = true :=
  ⟨busyWith 0x00000009#32 (.finish .noError .ok) [], _, rfl, rfl, rfl⟩

theorem witness_IrqFollowsDoneAndEnable :
    (∃ s t : State, s.phase = .finish .noError .ok ∧ exec .select s = .next t) ∧
    (∃ s t : State, s.sched = .host (.regWrite .word 0x04#32 2#32) :: [] ∧ (2#32).getLsbD 1 = true ∧ step s = .next t ∧
      s.irq = true) ∧
    (∃ s t : State, s.sched = .host (.regWrite .word 0x00#32 0x30#32) :: [] ∧ s.status.busy = false ∧ step s = .next t) ∧
    (∃ s t : State, s.sched = .host (.regWrite .word 0x08#32 9#32) :: [] ∧ s.status.busy = false ∧ step s = .next t) ∧
    (∃ s t : State, s.sched = .reset :: [] ∧ step s = .next t) :=
  ⟨⟨at_ (.finish .noError .ok) [], _, rfl, rfl⟩,
    ⟨{ State.reset with
        ctrl := { ie := true, cmdRetry := 3#4 }
        status := { State.reset.status with done := true }
        sched := [.host (.regWrite .word 0x04#32 2#32)] }, _, rfl, by decide, rfl, rfl⟩,
    ⟨{ State.reset with sched := [.host (.regWrite .word 0x00#32 0x30#32)] }, _, rfl, rfl, rfl⟩,
    ⟨{ State.reset with sched := [.host (.regWrite .word 0x08#32 9#32)] }, _, rfl, rfl, rfl⟩,
    ⟨{ State.reset with sched := [.reset] }, _, rfl, rfl⟩⟩

theorem witness_HostWriteFollowsItsRule :
    (∀ o ∈ [0x00#32, 0x04#32, 0x08#32, 0x0C#32, 0x10#32, 0x14#32, 0x34#32, 0x38#32, 0x18#32, 0x3C#32],
      let s := { State.reset with sched := [.host (.regWrite .word o 0xFFFFFFFF#32)] };
      s.sched = [.host (.regWrite .word o 0xFFFFFFFF#32)] ∧ s.status.busy = false) ∧
    (∀ o ∈ [0x00#32, 0x3C#32],
      let s := { at_ .decode [] with sched := [.host (.regWrite .word o 1#32)] };
      s.sched = [.host (.regWrite .word o 1#32)] ∧ s.status.busy = true ∧ o.toNat % 4 = 0 ∧ o.toNat ≤ 0x3C ∧
        o ≠ 0x04#32) :=
  ⟨fun _ _ => ⟨rfl, rfl⟩, fun o h => ⟨rfl, rfl, by
    simp only [List.mem_cons, List.not_mem_nil, or_false] at h
    rcases h with rfl | rfl <;> decide⟩⟩

theorem witness_HostReadReturnsTheRegister :
    ∀ o ∈ [0x00#32, 0x04#32, 0x08#32, 0x0C#32, 0x10#32, 0x14#32, 0x18#32, 0x1C#32, 0x20#32, 0x24#32, 0x28#32, 0x2C#32,
        0x30#32, 0x34#32, 0x38#32, 0x3C#32],
      ({ State.reset with sched := [.host (.regRead .word o)] } : State).sched = [.host (.regRead .word o)] := by
  intro o _
  rfl

theorem witness_OnlyAlignedWordAccessesHaveAMeaning :
    (AccessSize.word = .word ∧ (0x3C#32).toNat % 4 = 0 ∧ (0x3C#32).toNat ≤ 0x3C) ∧
    ¬(AccessSize.word = .word ∧ (0x40#32).toNat % 4 = 0 ∧ (0x40#32).toNat ≤ 0x3C) ∧
    ¬(AccessSize.word = .word ∧ (0x3D#32).toNat % 4 = 0 ∧ (0x3D#32).toNat ≤ 0x3C) ∧
    ¬(AccessSize.half = .word ∧ (0x00#32).toNat % 4 = 0 ∧ (0x00#32).toNat ≤ 0x3C) := by decide

theorem witness_OnlyAlignedWordAccessesHaveAMeaning_memory :
    State.reset.mem.wf = true ∧ 0xFFFFFFFF#32 ≠ 0x00000000#32 := by decide

theorem witness_StepRunsTheDecodedOperation :
    (∃ s t : State, s.sched = [] ∧ decode s.op = .ok .receive ∧ s.phase ≠ .idle ∧ exec .receive s = .next t) ∧
    (∃ s : State, s.sched = .engine :: [.tick] ∧ decode s.op = .ok .receive ∧ s.phase ≠ .idle ∧
      exec .receive { s with sched := [.tick] } = .fault .unbackedAccess) ∧
    (∃ s : State, s.sched = [] ∧ decode s.op = .ok .receive ∧ s.phase ≠ .idle ∧
      exec .receive s = .refused .phaseOutsideOperation) :=
  ⟨⟨busyWith 0x00000005#32 .decode [], _, rfl, by decide, by decide, rfl⟩,
    ⟨{ busyWith 0x00000005#32 (.recv 0 (.data 0)) [] with sched := [.engine, .tick], holes := [⟨0#32, 1⟩] }, rfl,
      by decide, by decide, rfl⟩,
    ⟨busyWith 0x00000005#32 .update [], rfl, by decide, by decide, rfl⟩⟩

theorem witness_StepRunsTheDecodedOperation_idle :
    ∃ s : State, s.sched = .engine :: [.tick] ∧ s.phase = .idle :=
  ⟨{ State.reset with sched := [.engine, .tick] }, rfl, rfl⟩

theorem witness_MachineRunIsExecRun :
    ∃ s t : State, s.sched = [] ∧ decode s.op = .ok .select ∧ execRun .select 3 s = .next t :=
  ⟨busyWith 0x00000009#32 .decode [], _, rfl, by decide, rfl⟩

theorem witness_EveryStepKeepsTheInvariant :
    ∃ s t : State, s.inv = true ∧ step s = .next t ∧ s.phase = .recv 0 (.data 511) :=
  ⟨{ busyWith 0x00000005#32 (.recv 0 (.data 511)) [0xA5#8] with count := 1#16 }, _, by decide, rfl, rfl⟩

theorem witness_NothingElseIsRefused :
    (∃ s : State, s.inv = true ∧ s.phase = .send 0 .crcLo) ∧
    (∃ s : State, s.inv = true ∧ step s = .refused .undefinedRegisterAccess) :=
  ⟨⟨{ busyWith 0x00000007#32 (.send 0 .crcLo) [] with count := 1#16 }, by decide, rfl⟩,
    ⟨{ State.reset with sched := [.host (.regRead .word 0x40#32)] }, by decide, rfl⟩⟩

theorem witness_OperationsNeverWriteTheHostsRegisters :
    ∃ s t : State, exec .receive s = .next t ∧ s.phase ≠ .decode ∧ (∀ err cls, s.phase ≠ .finish err cls) :=
  ⟨at_ .clearXfer [], _, rfl, by decide, by simp [at_]⟩

theorem witness_AtMostOneWireEventAStep :
    (∃ s t : State, step s = .next t ∧ s.sched.head? ≠ some .reset ∧ s.phase = .chipSelect) ∧
    (∃ s t : State, step s = .next t ∧ s.sched.head? ≠ some .reset ∧ s.phase = .idle) :=
  ⟨⟨busyWith 0x00000009#32 .chipSelect [], _, rfl, by decide, rfl⟩, ⟨State.reset, _, rfl, by decide, rfl⟩⟩

theorem witness_AtMostOneWireEventAStep_other_turns :
    (∃ s t : State, step s = .next t ∧ s.sched.head? = some .tick ∧ s.phase = .chipSelect) ∧
    (∃ s t : State, step s = .next t ∧ s.sched.head? = some .exchangeStarts ∧ s.phase = .waitReady .first) ∧
    (∃ s t : State, step s = .next t ∧ s.sched.head? = some (.host (.memWrite 0#32 1#8)) ∧ s.phase = .chipSelect) :=
  ⟨⟨{ busyWith 0x00000009#32 .chipSelect [] with sched := [.tick] }, _, rfl, rfl, rfl⟩,
    ⟨{ busyWith 0x00000008#32 (.waitReady .first) [] with sched := [.exchangeStarts] }, _, rfl, rfl, rfl⟩,
    ⟨{ busyWith 0x00000009#32 .chipSelect [] with sched := [.host (.memWrite 0#32 1#8)] }, _, rfl, rfl, rfl⟩⟩

theorem witness_TicksMatterOnlyToWaits :
    ({ State.reset with sched := [.tick] } : State).sched = [.tick] ∧
    (∃ s t : State, waiting s.phase = false ∧ exec .receive s = .next t) :=
  ⟨rfl, ⟨at_ (.recv 0 .crcHi) [0x00#8], _, rfl, rfl⟩⟩

/-- Each position whose first exchange can begin, a position that is no wait, and a limit of 1 met by one tick. -/
theorem witness_TicksMatterOnlyToWaits_single_exchange :
    (∀ p ∈ [Phase.command (.busy .first .crc), .autoStop crcFailure (.busy .first .ok), .recv 0 (.token .first),
        .send 0 (.ready .first), .stop none (.ready .first), .waitReady .first, .chipSelect],
      let s := { at_ p [] with sched := [.exchangeStarts] };
      s.sched = [.exchangeStarts] ∧ s.phase = p) ∧ waiting .chipSelect = false ∧
    (let s :=
        { busyWith 0x00000008#32 (.waitReady .first) [0x00#8] with
          toutBusy := 1#32, sched := .exchangeStarts :: (List.replicate 1 Turn.tick ++ Turn.engine :: []) };
      1 < 2 ^ 32 ∧ s.sched = .exchangeStarts :: (List.replicate 1 Turn.tick ++ Turn.engine :: []) ∧
        s.phase = .waitReady .first ∧ decode s.op = .ok .waitReady ∧ s.answer ≠ 0xFF#8 ∧ s.toutBusy.toNat ≤ 1) ∧
    (let s :=
        { busyWith 0x00000005#32 (.recv 0 (.token .first)) [0xFF#8] with
          toutRead := 1#32, sched := .exchangeStarts :: (List.replicate 1 Turn.tick ++ Turn.engine :: []) };
      s.phase = .recv 0 (.token .first) ∧ decode s.op = .ok .receive ∧ s.answer = 0xFF#8 ∧ s.toutRead.toNat ≤ 1) :=
  ⟨fun _ _ => ⟨rfl, rfl⟩, rfl, ⟨by norm_num, rfl, rfl, by decide, by decide, by decide⟩,
    ⟨rfl, by decide, by decide, by decide⟩⟩

/-- 70_reset_and_hazards.md R131: with ticks much faster than exchanges the first byte ends a wait whose limit is 5. -/
theorem test_exchangeStarts :
    gives
      (exec .waitReady { (at_ (.waitReady .first) [0x00#8]).startExchange with toutBusy := 5#32, ticks := 5#32 })
      (fun t => t.phase == .finish .onDrive .timeout) = true := by decide

theorem witness_OperationsDoNotCheckChipSelect : ∃ s t : State, exec (.idle 1#11) s = .next t :=
  ⟨at_ (.idleByte 0) [0x00#8], _, rfl⟩

theorem witness_EveryWaitEnds :
    (let s := busyWith 0x00000008#32 (.waitReady .first) [];
      s.inv = true ∧ waiting s.phase = true) ∧
    (let s := { busyWith 0x00000006#32 (.recv 0 (.token .again)) [] with op := 0x00010006#32, toutRead := 0xFFFFFFFF#32 };
      s.inv = true ∧ waiting s.phase = true) := by decide

theorem witness_UnbackedAccessLeavesTheEngineStuck :
    ∃ s t : State, s.stuckAt 0#32 ∧ s.sched.head? ≠ some .reset ∧ step s = .next t :=
  ⟨{ busyWith 0x00000005#32 (.recv 0 (.data 0)) [] with holes := [⟨0#32, 1⟩] }, _,
    ⟨rfl, by decide, .inl ⟨0, 0, rfl, by decide, .inl (by decide)⟩⟩, by decide, rfl⟩

theorem witness_ResetAbandonsTheOperation :
    ({ busyWith 0x00000005#32 (.recv 0 (.data 7)) [] with sched := [.reset] } : State).sched = [.reset] := by decide

end Sys2Proof.Tests
end

section
/-! PROOFS. What each step puts on the wire trace (20_memory.md R39 to R41), from the shared actions up to a turn of the
whole machine. -/

namespace Sys2Proof.Machine

/-! ## How two states compare on the wire -/

/-- The same wire trace and the same chip select. -/
structure SameWire (s t : State) : Prop where
  wire : t.wire = s.wire
  cs : t.cs = s.cs

/-- The wire and the chip select are those after one byte exchange (20_memory.md R39). -/
abbrev ExchangesOnce (s t : State) : Prop := ∃ tx, SameWire (s.exchange tx) t

/-- The wire and the chip select are those after at most one wire action (00_scope.md R5): none, one exchange, or one
chip-select change. -/
inductive WireStep (s t : State) : Prop where
  | quiet (h : SameWire s t)
  | exchanged (h : ExchangesOnce s t)
  | driven (v : Bool) (h : SameWire (s.driveCs v) t)

theorem SameWire.refl (s : State) : SameWire s s := ⟨rfl, rfl⟩

theorem SameWire.trans {s t u : State} (h : SameWire s t) (k : SameWire t u) : SameWire s u :=
  ⟨k.wire.trans h.wire, k.cs.trans h.cs⟩

theorem ExchangesOnce.trans {s t u : State} (h : ExchangesOnce s t) (k : SameWire t u) : ExchangesOnce s u :=
  h.imp fun _ h => h.trans k

theorem WireStep.trans {s t u : State} (h : WireStep s t) (k : SameWire t u) : WireStep s u := by
  cases h with
  | quiet h => exact .quiet (h.trans k)
  | exchanged h => exact .exchanged (h.trans k)
  | driven v h => exact .driven v (h.trans k)

/-- An exchange's event shows the chip select and the card's answer and nothing else of the state before. -/
theorem SameWire.exchange {s t : State} (h : SameWire s t) (ha : t.answer = s.answer) (tx : Byte) :
    SameWire (s.exchange tx) (t.exchange tx) :=
  ⟨by simp [h.wire, h.cs, ha], by simp [h.cs]⟩

theorem SameWire.driveCs {s t : State} (h : SameWire s t) (v : Bool) : SameWire (s.driveCs v) (t.driveCs v) :=
  ⟨by simp [h.wire], rfl⟩

theorem ExchangesOnce.of_sameWire {s t u : State} (h : SameWire s t) (ha : t.answer = s.answer)
    (k : ExchangesOnce t u) : ExchangesOnce s u :=
  k.imp fun tx k => (h.exchange ha tx).trans k

/-- Latching `t0` first does not show in an exchange's event (10_state.md R28). -/
theorem ExchangesOnce.of_latch {s t : State} {w : WaitPos} (h : ExchangesOnce (s.latch w) t) : ExchangesOnce s t :=
  h.of_sameWire ⟨s.latch_wire w, s.latch_cs w⟩ (s.latch_answer w)

theorem WireStep.of_sameWire {s t u : State} (h : SameWire s t) (ha : t.answer = s.answer) (k : WireStep t u) :
    WireStep s u := by
  cases k with
  | quiet k => exact .quiet (h.trans k)
  | exchanged k => exact .exchanged (k.of_sameWire h ha)
  | driven v k => exact .driven v ((h.driveCs v).trans k)

/-- The three kinds of wire step, by the event each records. -/
theorem wireStep_iff {s t : State} :
    WireStep s t ↔
      (t.wire = s.wire ∧ t.cs = s.cs) ∨
        (∃ tx, t.wire = .xchg s.cs tx s.answer :: s.wire ∧ t.cs = s.cs) ∨
          (∃ v, t.wire = .cs v :: s.wire ∧ t.cs = v) := by
  constructor
  · rintro (⟨hw, hc⟩ | ⟨tx, hw, hc⟩ | ⟨v, hw, hc⟩)
    · exact .inl ⟨hw, hc⟩
    · exact .inr (.inl ⟨tx, hw, hc⟩)
    · exact .inr (.inr ⟨v, hw, hc⟩)
  · rintro (⟨hw, hc⟩ | ⟨tx, hw, hc⟩ | ⟨v, hw, hc⟩)
    · exact .quiet ⟨hw, hc⟩
    · exact .exchanged ⟨tx, hw, hc⟩
    · exact .driven v ⟨hw, hc⟩

/-! ## The shared actions -/

theorem resyncStep_wireStep (p : ResyncPos) (s : State) : WireStep s (resyncStep p s).1 := by
  cases p with
  | low => exact .driven false ⟨rfl, rfl⟩
  | clock => exact .exchanged ⟨_, rfl, rfl⟩
  | high => exact .driven true ⟨rfl, rfl⟩

/-- The end of an attempt only counts the retry (41_command.md R82). -/
theorem SameWire.attemptEnd {cls : CompletionClass} {retryable : Bool} {s t : State} (h : SameWire s t) :
    SameWire s (Machine.attemptEnd cls retryable t).1 := by
  unfold Machine.attemptEnd
  split <;> exact ⟨h.wire, h.cs⟩

theorem r1Found_sameWire (idx : BitVec 6) (kind : RKind) (rx : Byte) (s : State) :
    SameWire s (r1Found idx kind rx s).1 := by
  have hresp : SameWire s { s with resp := maskR1 idx rx } := ⟨rfl, rfl⟩
  cases kind with
  | r1b | r2 | r3 | r7 => exact hresp
  | r1 | noResp => exact hresp.attemptEnd

theorem frameStep_exchangesOnce (idx : BitVec 6) (arg : Word) (kind : RKind) (k : Nat) (s : State) :
    ExchangesOnce s (frameStep idx arg kind k s).1 := by
  unfold frameStep sendFrameEnd
  split
  · exact ⟨_, rfl, rfl⟩
  · split <;> exact ⟨_, rfl, rfl⟩

theorem pollStep_exchangesOnce (idx : BitVec 6) (kind : RKind) (k : Nat) (s : State) :
    ExchangesOnce s (pollStep idx kind k s).1 := by
  unfold pollStep
  dsimp only
  split
  · exact ⟨_, r1Found_sameWire ..⟩
  · split
    · exact ⟨_, .refl _⟩
    · exact ⟨_, .attemptEnd ⟨rfl, rfl⟩⟩

theorem tailStep_exchangesOnce (kind : RKind) (k : Nat) (cls : CompletionClass) (s : State) :
    ExchangesOnce s (tailStep kind k cls s).1 := by
  unfold tailStep
  dsimp only
  split
  · exact ⟨_, rfl, rfl⟩
  · exact ⟨_, .attemptEnd ⟨rfl, rfl⟩⟩

theorem busyStep_exchangesOnce (w : WaitPos) (cls : CompletionClass) (s : State) :
    ExchangesOnce s (busyStep w cls s).1 := by
  refine ExchangesOnce.of_latch (w := w) ?_
  unfold busyStep
  dsimp only
  split
  · exact ⟨_, .attemptEnd (.refl _)⟩
  · exact ⟨_, .attemptEnd (.refl _)⟩
  · exact ⟨_, .refl _⟩

/-- Every action of CmdCore is one exchange but the chip-select changes of a resync (41_command.md R81, R84). -/
theorem cmdStep_wireStep (idx : BitVec 6) (arg : Word) (kind : RKind) (p : CmdPos) (s : State) :
    WireStep s (cmdStep idx arg kind p s).1 := by
  cases p with
  | start =>
    have hcleared : SameWire s { s with attempt := 0#4, status := { s.status with attempts := 0#4 } } := ⟨rfl, rfl⟩
    exact .exchanged (.of_sameWire hcleared rfl (frameStep_exchangesOnce ..))
  | frame k => exact .exchanged (frameStep_exchangesOnce ..)
  | stuff => exact .exchanged ⟨_, .refl _⟩
  | poll k => exact .exchanged (pollStep_exchangesOnce ..)
  | tail k cls => exact .exchanged (tailStep_exchangesOnce ..)
  | busy w cls => exact .exchanged (busyStep_exchangesOnce ..)
  | resync q =>
    have h := resyncStep_wireStep q s
    cases q <;> exact h

theorem recvToken_exchangesOnce (n : Nat) (w : WaitPos) (s : State) : ExchangesOnce s (recvToken n w s).1 := by
  refine ExchangesOnce.of_latch (w := w) ?_
  unfold recvToken
  dsimp only
  split
  · exact ⟨_, .refl _⟩
  · exact ⟨_, rfl, rfl⟩
  · split <;> exact ⟨_, rfl, rfl⟩

/-- Every action of RecvPacket is one exchange (42_data_transfer.md R93). -/
theorem recvStep_exchangesOnce {n : Nat} {p : RecvPos} {s : State} {r : State × RecvNext}
    (h : recvStep n p s = some r) : ExchangesOnce s r.1 := by
  cases p with
  | token w =>
    cases h
    exact recvToken_exchangesOnce n w s
  | data j =>
    simp only [recvStep] at h
    split at h <;> cases h
    exact ⟨_, rfl, rfl⟩
  | crcHi =>
    cases h
    exact ⟨_, rfl, rfl⟩
  | crcLo =>
    cases h
    unfold recvCrcLo
    dsimp only
    split <;> exact ⟨_, rfl, rfl⟩

theorem sendReady_exchangesOnce (k : Nat) (w : WaitPos) (s : State) : ExchangesOnce s (sendReady k w s) := by
  refine ExchangesOnce.of_latch (w := w) ?_
  unfold sendReady
  dsimp only
  split <;> exact ⟨_, rfl, rfl⟩

theorem sendResponse_exchangesOnce (multi final : Bool) (k : Nat) (s : State) :
    ExchangesOnce s (sendResponse multi final k s) := by
  unfold sendResponse
  dsimp only
  split <;> exact ⟨Config.idleByte, rfl, rfl⟩

/-- Every action of a written block is one exchange (42_data_transfer.md R99). -/
theorem sendStep_exchangesOnce {multi final : Bool} {k : Nat} {p : SendPos} {s t : State}
    (h : sendStep multi final k p s = some t) : ExchangesOnce s t := by
  cases p with
  | ready w =>
    cases h
    exact sendReady_exchangesOnce k w s
  | data j =>
    simp only [sendStep] at h
    split at h <;> cases h
    exact ⟨_, rfl, rfl⟩
  | response =>
    cases h
    exact sendResponse_exchangesOnce multi final k s
  | token | crcHi | crcLo =>
    cases h
    exact ⟨_, rfl, rfl⟩

/-- Every action of StopSeq is one exchange (42_data_transfer.md R98). -/
theorem stopStep_exchangesOnce (p : StopPos) (s : State) : ExchangesOnce s (stopStep p s).1 := by
  cases p with
  | ready w =>
    refine ExchangesOnce.of_latch (w := w) ?_
    unfold stopStep
    dsimp only
    split <;> exact ⟨_, .refl _⟩
  | token => exact ⟨_, .refl _⟩
  | stuff => exact ⟨_, rfl, rfl⟩

theorem waitReadyStep_exchangesOnce (w : WaitPos) (s : State) : ExchangesOnce s (waitReadyStep w s) := by
  refine ExchangesOnce.of_latch (w := w) ?_
  unfold waitReadyStep
  dsimp only
  split <;> exact ⟨_, rfl, rfl⟩

/-! ## Going on to the next position puts nothing on the wire -/

theorem resyncNext_sameWire (r : State × Option ResyncPos) : SameWire r.1 (resyncNext r) := by
  obtain ⟨s, _ | p⟩ := r <;> exact ⟨rfl, rfl⟩

theorem sendCmdNext_sameWire (r : State × CmdNext) : SameWire r.1 (sendCmdNext r) := by
  obtain ⟨s, p | cls⟩ := r <;> exact ⟨rfl, rfl⟩

theorem autoStopNext_sameWire (f : Failure) (r : State × CmdNext) : SameWire r.1 (autoStopNext f r) := by
  obtain ⟨s, p | cls⟩ := r
  · exact ⟨rfl, rfl⟩
  · simp only [autoStopNext]
    split <;> exact ⟨rfl, rfl⟩

theorem receiveNext_sameWire (k : Nat) (r : State × RecvNext) : SameWire r.1 (receiveNext k r) := by
  obtain ⟨s, p | _ | f⟩ := r <;> exact ⟨rfl, rfl⟩

theorem recvShortNext_sameWire (k : Nat) (r : State × RecvNext) : SameWire r.1 (recvShortNext k r) := by
  obtain ⟨s, p | _ | f⟩ := r <;> exact ⟨rfl, rfl⟩

theorem stopNext_sameWire (f : Option Failure) (r : State × StopNext) : SameWire r.1 (stopNext f r) := by
  obtain ⟨s, p | _ | _⟩ := r
  · exact ⟨rfl, rfl⟩
  all_goals cases f <;> exact ⟨rfl, rfl⟩

/-! ## The operations -/

theorem decodeTo_sameWire (legal : Bool) (first : Phase) (s : State) : SameWire s (s.decodeTo legal first) := by
  cases legal <;> exact ⟨rfl, rfl⟩

/-- Idle, the decode step and `Finish` stay off the wire, so an operation's own positions decide (00_scope.md R5). -/
theorem runPhase_wireStep {legal : Bool} {first : Phase} {body : State → StepResult} {s t : State}
    (hbody : body s = .next t → WireStep s t) (h : runPhase legal first body s = .next t) : WireStep s t := by
  obtain ⟨-, rfl⟩ | ⟨-, rfl⟩ | ⟨e, c, -, rfl⟩ | ⟨-, -, -, hb⟩ := runPhase_cases h
  · exact .quiet (.refl _)
  · exact .quiet (decodeTo_sameWire ..)
  · exact .quiet ⟨rfl, rfl⟩
  · exact hbody hb

theorem crcOp_wireStep {update : State → State} {s t : State} (hu : SameWire s (update s))
    (h : crcOp update s = .next t) : WireStep s t := by
  refine runPhase_wireStep (fun hb => ?_) h
  split at hb <;> cases hb
  exact .quiet (hu.trans ⟨rfl, rfl⟩)

theorem execCrcClear_wireStep {c7 c16 : Bool} {s t : State} (h : execCrcClear c7 c16 s = .next t) : WireStep s t :=
  crcOp_wireStep ⟨rfl, rfl⟩ h

theorem execCrc7Feed_wireStep {byte : Byte} {s t : State} (h : execCrc7Feed byte s = .next t) : WireStep s t :=
  crcOp_wireStep ⟨rfl, rfl⟩ h

theorem execCrc16Feed_wireStep {byte : Byte} {s t : State} (h : execCrc16Feed byte s = .next t) : WireStep s t :=
  crcOp_wireStep ⟨rfl, rfl⟩ h

theorem chipSelectOp_wireStep {v : Bool} {s t : State} (h : chipSelectOp v s = .next t) : WireStep s t := by
  refine runPhase_wireStep (fun hb => ?_) h
  split at hb <;> cases hb
  exact .driven v ⟨rfl, rfl⟩

theorem execWaitReady_wireStep {s t : State} (h : execWaitReady s = .next t) : WireStep s t := by
  refine runPhase_wireStep (fun hb => ?_) h
  split at hb <;> cases hb
  exact .exchanged (waitReadyStep_exchangesOnce ..)

theorem execResync_wireStep {s t : State} (h : execResync s = .next t) : WireStep s t := by
  refine runPhase_wireStep (fun hb => ?_) h
  split at hb <;> cases hb
  exact (resyncStep_wireStep ..).trans (resyncNext_sameWire _)

theorem execIdle_wireStep {n : BitVec 11} {s t : State} (h : execIdle n s = .next t) : WireStep s t := by
  refine runPhase_wireStep (fun hb => ?_) h
  split at hb <;> cases hb
  exact .exchanged ⟨_, rfl, rfl⟩

theorem sendCmdBody_wireStep {kind : RKind} {idx : BitVec 6} {s t : State}
    (h : sendCmdBody kind idx s = .next t) : WireStep s t := by
  refine runPhase_wireStep (fun hb => ?_) h
  split at hb <;> cases hb
  exact (cmdStep_wireStep ..).trans (sendCmdNext_sameWire _)

theorem execReceive_wireStep {s t : State} (h : execReceive s = .next t) : WireStep s t := by
  refine runPhase_wireStep (fun hb => ?_) h
  split at hb
  next => cases hb; exact .quiet ⟨rfl, rfl⟩
  next =>
    split at hb <;> cases hb
    next hr => exact .exchanged ((recvStep_exchangesOnce hr).trans (receiveNext_sameWire ..))
  next => cases hb; exact .quiet ⟨rfl, rfl⟩
  next => cases hb; exact (cmdStep_wireStep ..).trans (autoStopNext_sameWire ..)
  next => cases hb

theorem execRecvShort_wireStep {len : BitVec 10} {s t : State} (h : execRecvShort len s = .next t) :
    WireStep s t := by
  refine runPhase_wireStep (fun hb => ?_) h
  split at hb
  next => cases hb; exact .quiet ⟨rfl, rfl⟩
  next =>
    split at hb <;> cases hb
    next hr => exact .exchanged ((recvStep_exchangesOnce hr).trans (recvShortNext_sameWire ..))
  next => cases hb; exact .quiet ⟨rfl, rfl⟩
  next => cases hb

theorem transmitBody_wireStep {legal multi final : Bool} {s t : State}
    (h : transmitBody legal multi final s = .next t) : WireStep s t := by
  refine runPhase_wireStep (fun hb => ?_) h
  split at hb
  next => cases hb; exact .quiet ⟨rfl, rfl⟩
  next =>
    split at hb <;> cases hb
    next hr => exact .exchanged (sendStep_exchangesOnce hr)
  next => cases hb; exact .exchanged ((stopStep_exchangesOnce ..).trans (stopNext_sameWire ..))
  next => cases hb; exact .quiet ⟨rfl, rfl⟩
  next => cases hb; exact .quiet ⟨rfl, rfl⟩
  next => cases hb

/-- One Engine step of any operation puts at most one event on the wire (00_scope.md R5). -/
theorem exec_wireStep {i : Instr} {s t : State} (h : exec i s = .next t) : WireStep s t := by
  cases i with
  | crcClear c7 c16 => exact execCrcClear_wireStep h
  | crc7Feed byte => exact execCrc7Feed_wireStep h
  | crc16Feed byte => exact execCrc16Feed_wireStep h
  | sendCmdNone | sendCmdR1 | sendCmdR1B | sendCmdR2 | sendCmdR3 | sendCmdR7 => exact sendCmdBody_wireStep h
  | receive => exact execReceive_wireStep h
  | recvShort len => exact execRecvShort_wireStep h
  | transmit | transmitM | transmitMF => exact transmitBody_wireStep h
  | waitReady => exact execWaitReady_wireStep h
  | select | deselect => exact chipSelectOp_wireStep h
  | resync => exact execResync_wireStep h
  | idle n => exact execIdle_wireStep h

/-! ## The agents' turns -/

theorem illegalWordTurn_sameWire {s t : State} (h : illegalWordTurn s = .next t) : SameWire s t := by
  unfold illegalWordTurn at h
  split at h <;> cases h
  exact ⟨rfl, rfl⟩

/-- What an engine that goes on, or stays stuck, answers (20_memory.md R36). -/
theorem keepStuck_eq_next {s t : State} {r : StepResult} (h : keepStuck s r = .next t) : r = .next t ∨ t = s := by
  unfold keepStuck at h
  split at h <;> cases h
  · exact .inl rfl
  · exact .inr rfl

theorem engineTurn_of_idle {s : State} (h : s.phase = .idle) : engineTurn s = .next s := by
  simp [engineTurn, h]

theorem engineTurn_wireStep {s t : State} (h : engineTurn s = .next t) : WireStep s t := by
  unfold engineTurn at h
  split at h
  · cases h
    exact .quiet (.refl _)
  · split at h
    · obtain he | rfl := keepStuck_eq_next h
      · exact exec_wireStep he
      · exact .quiet (.refl _)
    · exact .quiet (illegalWordTurn_sameWire h)

theorem writeSlot_sameWire (sl : Slot) (w : Word) (s : State) : SameWire s (writeSlot sl w s) := by
  unfold writeSlot
  split
  · exact ⟨rfl, rfl⟩
  · split
    · exact ⟨rfl, rfl⟩
    · cases sl <;> exact ⟨rfl, rfl⟩

theorem hostRegRead_sameWire {size : AccessSize} {offset : Word} {s t : State}
    (h : hostRegRead size offset s = .next t) : SameWire s t := by
  unfold hostRegRead at h
  split at h <;> cases h
  exact ⟨rfl, rfl⟩

theorem hostRegWrite_sameWire {size : AccessSize} {offset value : Word} {s t : State}
    (h : hostRegWrite size offset value s = .next t) : SameWire s t := by
  unfold hostRegWrite at h
  split at h <;> cases h
  exact writeSlot_sameWire ..

theorem hostStep_sameWire {a : HostAction} {s t : State} (h : hostStep a s = .next t) : SameWire s t := by
  cases a with
  | regRead | busRead => exact hostRegRead_sameWire h
  | regWrite | busWrite => exact hostRegWrite_sameWire h
  | memRead | memWrite => cases h; exact ⟨rfl, rfl⟩

/-- The timebase, the host and the start of an exchange stay off the wire (20_memory.md R41). -/
theorem takeTurn_sameWire {u : Turn} {s t : State} (he : u ≠ .engine) (hr : u ≠ .reset)
    (h : takeTurn u s = .next t) : SameWire s t := by
  cases u with
  | engine => exact absurd rfl he
  | reset => exact absurd rfl hr
  | exchangeStarts => cases h; exact ⟨s.startExchange_wire, s.startExchange_cs⟩
  | tick => cases h; exact ⟨rfl, rfl⟩
  | host a => exact hostStep_sameWire h

/-- While the engine is idle only a reset touches the wire or the chip select (20_memory.md R40, R41). -/
theorem takeTurn_sameWire_of_idle {u : Turn} {s t : State} (hp : s.phase = .idle) (hr : u ≠ .reset)
    (h : takeTurn u s = .next t) : SameWire s t := by
  by_cases he : u = .engine
  · subst he
    cases (engineTurn_of_idle hp).symm.trans h
    exact .refl _
  · exact takeTurn_sameWire he hr h

theorem takeTurn_wireStep {u : Turn} {s t : State} (hr : u ≠ .reset) (h : takeTurn u s = .next t) :
    WireStep s t := by
  by_cases he : u = .engine
  · subst he
    exact engineTurn_wireStep h
  · exact .quiet (takeTurn_sameWire he hr h)

/-- Whose turn it is: the first one listed, and with none listed the Engine's (assumption log 2). -/
def State.nextTurn (s : State) : Turn := s.sched.head?.getD .engine

theorem step_eq_takeTurn (s : State) : step s = takeTurn s.nextTurn { s with sched := s.sched.tail } := by
  unfold step machineStep State.nextTurn
  split
  next hs =>
    have hpop : { s with sched := s.sched.tail } = s := by rw [hs, List.tail_nil, ← hs]
    rw [hpop, hs]
    rfl
  next hs =>
    rw [hs]
    rfl

theorem State.nextTurn_ne_reset {s : State} (h : s.sched.head? ≠ some .reset) : s.nextTurn ≠ .reset := by
  unfold State.nextTurn
  cases hs : s.sched.head? with
  | none => nofun
  | some u => exact fun hu => h (hs.trans (congrArg some hu))

theorem State.nextTurn_of_head {s : State} {u : Turn} (h : s.sched.head? = some u) : s.nextTurn = u := by
  simp [State.nextTurn, h]

/-- Settles O54: `exec_wireStep` for the Engine's turn, and every other turn but reset is quiet. -/
theorem atMostOneWireEventAStep : Obligations.AtMostOneWireEventAStep := by
  intro s t hstep hreset
  rw [step_eq_takeTurn] at hstep
  have hr := State.nextTurn_ne_reset hreset
  have hpop : SameWire s { s with sched := s.sched.tail } := ⟨rfl, rfl⟩
  refine ⟨wireStep_iff.mp ((takeTurn_wireStep hr hstep).of_sameWire hpop rfl), fun hidle => ?_, fun hturn => ?_⟩
  · obtain ⟨hw, hc⟩ := hpop.trans (takeTurn_sameWire_of_idle hidle hr hstep)
    exact ⟨hw, hc⟩
  · have he : s.nextTurn ≠ .engine := by
      obtain h | h | ⟨a, h⟩ := hturn <;> rw [State.nextTurn_of_head h] <;> nofun
    obtain ⟨hw, hc⟩ := hpop.trans (takeTurn_sameWire he hr hstep)
    exact ⟨hw, hc⟩

end Sys2Proof.Machine
end

section
/-! PROOFS. What a step of an operation leaves unchanged (10_state.md R13, R14, R16, R23, R26, R27, R29), from the shared
actions up to `exec`, and when DONE rises (60_exceptions.md R109). -/

namespace Sys2Proof.Machine

/-! ## What every action of an operation's own pseudocode keeps -/

theorem SameHostSide.refl (s : State) : SameHostSide s s := ⟨rfl, rfl, rfl, rfl, rfl, rfl, rfl, rfl, rfl, rfl, rfl⟩

theorem SameHostSide.trans {s t u : State} (h : SameHostSide s t) (k : SameHostSide t u) : SameHostSide s u :=
  ⟨k.ctrl.trans h.ctrl, k.op.trans h.op, k.arg.trans h.arg, k.count.trans h.count, k.toutRead.trans h.toutRead,
    k.toutBusy.trans h.toutBusy, k.ticks.trans h.ticks, k.holes.trans h.holes, k.sched.trans h.sched,
    k.readData.trans h.readData, k.rej.trans h.rej⟩

theorem SameCompletion.trans {s t u : State} (h : SameCompletion s t) (k : SameCompletion t u) : SameCompletion s u :=
  ⟨k.busy.trans h.busy, k.done.trans h.done, k.err.trans h.err, k.cls.trans h.cls⟩

/-- What an action at a position of an operation's own pseudocode keeps: the host's side, the completion's part of the
record, and the canonical form of host memory. -/
structure ActionFrame (s t : State) : Prop extends SameHostSide s t, SameCompletion s t where
  mem_wf : s.mem.wf = true → t.mem.wf = true

theorem ActionFrame.trans {s t u : State} (h : ActionFrame s t) (k : ActionFrame t u) : ActionFrame s u :=
  ⟨h.toSameHostSide.trans k.toSameHostSide, h.toSameCompletion.trans k.toSameCompletion, k.mem_wf ∘ h.mem_wf⟩

/-- A state that differs only in fields an action may write; for an update written out the premise is `rfl`. -/
theorem ActionFrame.of_eq {s t : State}
    (h : t =
      { t with
        ctrl := s.ctrl, op := s.op, arg := s.arg, count := s.count, toutRead := s.toutRead, toutBusy := s.toutBusy
        ticks := s.ticks, holes := s.holes, sched := s.sched, readData := s.readData, mem := s.mem
        status :=
          { t.status with
            rej := s.status.rej, busy := s.status.busy, done := s.status.done, err := s.status.err
            cls := s.status.cls } }) : ActionFrame s t := by
  rw [h]
  exact ⟨⟨rfl, rfl, rfl, rfl, rfl, rfl, rfl, rfl, rfl, rfl, rfl⟩, ⟨rfl, rfl, rfl, rfl⟩, id⟩

theorem ActionFrame.setPhase {s t : State} (h : ActionFrame s t) (p : Phase) : ActionFrame s (t.setPhase p) :=
  h.trans (.of_eq rfl)

theorem CmdFrame.action {s t : State} (h : CmdFrame s t) : ActionFrame s t :=
  ⟨h.toSameHostSide, h.toSameCompletion, fun hm => by rw [h.mem, hm]⟩

theorem SendFrame.action {s t : State} (h : SendFrame s t) : ActionFrame s t :=
  ⟨h.toSameHostSide, h.toSameCompletion, fun hm => by rw [h.mem, hm]⟩

theorem StopFrame.action {s t : State} (h : StopFrame s t) : ActionFrame s t :=
  ⟨h.toSameHostSide, h.toSameCompletion, fun hm => by rw [h.mem, hm]⟩

/-- Only a data byte stores, at a 32-bit address (20_memory.md R35). -/
theorem recvStep_action {n : Nat} {p : RecvPos} {s : State} {r : State × RecvNext} (h : recvStep n p s = some r) :
    ActionFrame s r.1 := by
  obtain ⟨hf, ⟨j, -, -, hm⟩ | ⟨-, hm⟩⟩ := recvStep_frame h
  · exact ⟨hf.toSameHostSide, hf.toSameCompletion, fun hw => hm ▸ Memory.write_wf _ _ _ (dataAddr s j).isLt hw⟩
  · exact ⟨hf.toSameHostSide, hf.toSameCompletion, fun hw => by rw [hm, hw]⟩

theorem waitReadyStep_action (w : WaitPos) (s : State) : ActionFrame s (waitReadyStep w s) := by
  have hx := ((latch_frame w s).trans (exchange_frame Config.idleByte (s.latch w))).action
  unfold waitReadyStep
  dsimp only
  split <;> exact hx.setPhase _

theorem resyncNext_action (r : State × Option ResyncPos) : ActionFrame r.1 (resyncNext r) := by
  obtain ⟨s, _ | p⟩ := r <;> exact .of_eq rfl

theorem sendCmdNext_action (r : State × CmdNext) : ActionFrame r.1 (sendCmdNext r) := by
  obtain ⟨s, p | cls⟩ := r <;> exact .of_eq rfl

theorem autoStopNext_action (f : Failure) (r : State × CmdNext) : ActionFrame r.1 (autoStopNext f r) := by
  obtain ⟨s, p | cls⟩ := r
  · exact .of_eq rfl
  · simp only [autoStopNext]
    split <;> exact .of_eq rfl

theorem receiveNext_action (k : Nat) (r : State × RecvNext) : ActionFrame r.1 (receiveNext k r) := by
  obtain ⟨s, p | _ | f⟩ := r <;> exact .of_eq rfl

theorem recvShortNext_action (k : Nat) (r : State × RecvNext) : ActionFrame r.1 (recvShortNext k r) := by
  obtain ⟨s, p | _ | f⟩ := r <;> exact .of_eq rfl

theorem stopNext_action (f : Option Failure) (r : State × StopNext) : ActionFrame r.1 (stopNext f r) := by
  obtain ⟨s, p | _ | _⟩ := r
  · exact .of_eq rfl
  all_goals cases f <;> exact .of_eq rfl

/-! ## The operations at their own positions -/

/-- The position is one of an operation's own pseudocode: not idle, not the decode step and not `Finish`. -/
structure Phase.IsAction (p : Phase) : Prop where
  ne_idle : p ≠ .idle
  ne_decode : p ≠ .decode
  ne_finish : ∀ e c, p ≠ .finish e c

theorem runPhase_of_isAction {legal : Bool} {first : Phase} {body : State → StepResult} {s : State}
    (hp : s.phase.IsAction) : runPhase legal first body s = body s := by
  unfold runPhase
  split
  next h => exact absurd h hp.ne_idle
  next h => exact absurd h hp.ne_decode
  next h => exact absurd h (hp.ne_finish _ _)
  next => rfl

theorem crcOp_action {update : State → State} {s t : State} (hp : s.phase.IsAction) (hu : ActionFrame s (update s))
    (h : crcOp update s = .next t) : ActionFrame s t := by
  rw [crcOp, runPhase_of_isAction hp] at h
  split at h <;> cases h
  exact hu.setPhase _

theorem execCrcClear_action {c7 c16 : Bool} {s t : State} (hp : s.phase.IsAction)
    (h : execCrcClear c7 c16 s = .next t) : ActionFrame s t :=
  crcOp_action hp (.of_eq rfl) h

theorem execCrc7Feed_action {byte : Byte} {s t : State} (hp : s.phase.IsAction)
    (h : execCrc7Feed byte s = .next t) : ActionFrame s t :=
  crcOp_action hp (.of_eq rfl) h

theorem execCrc16Feed_action {byte : Byte} {s t : State} (hp : s.phase.IsAction)
    (h : execCrc16Feed byte s = .next t) : ActionFrame s t :=
  crcOp_action hp (.of_eq rfl) h

theorem chipSelectOp_action {v : Bool} {s t : State} (hp : s.phase.IsAction) (h : chipSelectOp v s = .next t) :
    ActionFrame s t := by
  rw [chipSelectOp, runPhase_of_isAction hp] at h
  split at h <;> cases h
  exact .of_eq rfl

theorem execWaitReady_action {s t : State} (hp : s.phase.IsAction) (h : execWaitReady s = .next t) :
    ActionFrame s t := by
  rw [execWaitReady, runPhase_of_isAction hp] at h
  split at h <;> cases h
  exact waitReadyStep_action ..

theorem execResync_action {s t : State} (hp : s.phase.IsAction) (h : execResync s = .next t) : ActionFrame s t := by
  rw [execResync, runPhase_of_isAction hp] at h
  split at h <;> cases h
  exact (resyncStep_frame ..).action.trans (resyncNext_action _)

theorem execIdle_action {n : BitVec 11} {s t : State} (hp : s.phase.IsAction) (h : execIdle n s = .next t) :
    ActionFrame s t := by
  rw [execIdle, runPhase_of_isAction hp] at h
  split at h <;> cases h
  exact (exchange_frame ..).action.setPhase _

theorem sendCmdBody_action {kind : RKind} {idx : BitVec 6} {s t : State} (hp : s.phase.IsAction)
    (h : sendCmdBody kind idx s = .next t) : ActionFrame s t := by
  rw [sendCmdBody, runPhase_of_isAction hp] at h
  split at h <;> cases h
  exact (cmdStep_frame ..).action.trans (sendCmdNext_action _)

theorem execReceive_action {s t : State} (hp : s.phase.IsAction) (h : execReceive s = .next t) :
    ActionFrame s t := by
  rw [execReceive, runPhase_of_isAction hp] at h
  split at h
  next => cases h; exact .of_eq rfl
  next =>
    split at h <;> cases h
    next hr => exact (recvStep_action hr).trans (receiveNext_action ..)
  next => cases h; exact .of_eq rfl
  next => cases h; exact (cmdStep_frame ..).action.trans (autoStopNext_action ..)
  next => cases h

theorem execRecvShort_action {len : BitVec 10} {s t : State} (hp : s.phase.IsAction)
    (h : execRecvShort len s = .next t) : ActionFrame s t := by
  rw [execRecvShort, runPhase_of_isAction hp] at h
  split at h
  next => cases h; exact .of_eq rfl
  next =>
    split at h <;> cases h
    next hr => exact (recvStep_action hr).trans (recvShortNext_action ..)
  next => cases h; exact .of_eq rfl
  next => cases h

theorem transmitBody_action {legal multi final : Bool} {s t : State} (hp : s.phase.IsAction)
    (h : transmitBody legal multi final s = .next t) : ActionFrame s t := by
  rw [transmitBody, runPhase_of_isAction hp] at h
  split at h
  next => cases h; exact .of_eq rfl
  next =>
    split at h <;> cases h
    next hr => exact (sendStep_frame hr).action
  next => cases h; exact (stopStep_frame ..).action.trans (stopNext_action ..)
  next => cases h; exact .of_eq rfl
  next => cases h; exact .of_eq rfl
  next => cases h

theorem exec_action {i : Instr} {s t : State} (hp : s.phase.IsAction) (h : exec i s = .next t) : ActionFrame s t := by
  cases i with
  | crcClear c7 c16 => exact execCrcClear_action hp h
  | crc7Feed byte => exact execCrc7Feed_action hp h
  | crc16Feed byte => exact execCrc16Feed_action hp h
  | sendCmdNone | sendCmdR1 | sendCmdR1B | sendCmdR2 | sendCmdR3 | sendCmdR7 => exact sendCmdBody_action hp h
  | receive => exact execReceive_action hp h
  | recvShort len => exact execRecvShort_action hp h
  | transmit | transmitM | transmitMF => exact transmitBody_action hp h
  | waitReady => exact execWaitReady_action hp h
  | select | deselect => exact chipSelectOp_action hp h
  | resync => exact execResync_action hp h
  | idle n => exact execIdle_action hp h

/-- Every operation shares the idle step, the decode step of R52 and `Finish`; only its own positions differ. -/
theorem exec_eq_runPhase (i : Instr) (s : State) :
    ∃ body, exec i s = runPhase (legalOp i s.count) (firstAction i) body s := by
  cases i <;> exact ⟨_, by simp [exec, legalOp, Instr.wf, firstAction]; rfl⟩

theorem exec_decode (i : Instr) {s : State} (hp : s.phase = .decode) :
    exec i s = .next (s.decodeTo (legalOp i s.count) (firstAction i)) := by
  obtain ⟨body, h⟩ := exec_eq_runPhase i s
  rw [h, runPhase_decode hp]

theorem exec_finish (i : Instr) {s : State} {e : ErrCode} {c : CompletionClass} (hp : s.phase = .finish e c) :
    exec i s = .next (s.finish e c) := by
  obtain ⟨body, h⟩ := exec_eq_runPhase i s
  rw [h, runPhase_finish hp]

theorem exec_idle (i : Instr) {s : State} (hp : s.phase = .idle) : exec i s = .next s := by
  obtain ⟨body, h⟩ := exec_eq_runPhase i s
  rw [h, runPhase_idle hp]

/-- The one inversion of `exec`: idle, the decode step, `Finish`, or an action of the operation's own. -/
theorem exec_cases {i : Instr} {s t : State} (h : exec i s = .next t) :
    (s.phase = .idle ∧ t = s) ∨ (s.phase = .decode ∧ t = s.decodeTo (legalOp i s.count) (firstAction i)) ∨
      (∃ e c, s.phase = .finish e c ∧ t = s.finish e c) ∨ (s.phase.IsAction ∧ ActionFrame s t) := by
  cases hp : s.phase with
  | idle =>
    cases (exec_idle i hp).symm.trans h
    exact .inl ⟨rfl, rfl⟩
  | decode =>
    cases (exec_decode i hp).symm.trans h
    exact .inr (.inl ⟨rfl, rfl⟩)
  | finish e c =>
    cases (exec_finish i hp).symm.trans h
    exact .inr (.inr (.inl ⟨e, c, rfl, rfl⟩))
  | _ =>
    have ha : s.phase.IsAction := ⟨by simp [hp], by simp [hp], by simp [hp]⟩
    exact .inr (.inr (.inr ⟨hp ▸ ha, exec_action ha h⟩))

theorem decodeTo_sameHostSide (legal : Bool) (first : Phase) (s : State) : SameHostSide s (s.decodeTo legal first) := by
  cases legal <;> exact ⟨rfl, rfl, rfl, rfl, rfl, rfl, rfl, rfl, rfl, rfl, rfl⟩

theorem finish_sameHostSide (e : ErrCode) (c : CompletionClass) (s : State) : SameHostSide s (s.finish e c) :=
  ⟨rfl, rfl, rfl, rfl, rfl, rfl, rfl, rfl, rfl, rfl, rfl⟩

theorem exec_sameHostSide {i : Instr} {s t : State} (h : exec i s = .next t) : SameHostSide s t := by
  obtain ⟨-, rfl⟩ | ⟨-, rfl⟩ | ⟨e, c, -, rfl⟩ | ⟨-, hf⟩ := exec_cases h
  · exact .refl _
  · exact decodeTo_sameHostSide ..
  · exact finish_sameHostSide ..
  · exact hf.toSameHostSide

theorem exec_sameCompletion {i : Instr} {s t : State} (hd : s.phase ≠ .decode) (hn : ∀ e c, s.phase ≠ .finish e c)
    (h : exec i s = .next t) : SameCompletion s t := by
  obtain ⟨-, rfl⟩ | ⟨hp, -⟩ | ⟨e, c, hp, -⟩ | ⟨-, hf⟩ := exec_cases h
  · exact ⟨rfl, rfl, rfl, rfl⟩
  · exact absurd hp hd
  · exact absurd hp (hn e c)
  · exact hf.toSameCompletion

/-- Settles O53: `exec_sameHostSide` at every position, `exec_sameCompletion` away from decode and `Finish`. -/
theorem operationsNeverWriteTheHostsRegisters : Obligations.OperationsNeverWriteTheHostsRegisters := by
  intro i s t h
  have hs := exec_sameHostSide h
  refine ⟨hs.ctrl, hs.op, hs.arg, hs.count, hs.toutRead, hs.toutBusy, hs.ticks, hs.rej, hs.holes, hs.sched,
    hs.readData, fun hd hn => ?_⟩
  have hc := exec_sameCompletion hd hn h
  exact ⟨hc.busy, hc.done, hc.err, hc.cls⟩

/-! ## The CRC and bus-control operations -/

/-- What every step of a CRC or bus-control operation leaves alone, its `Finish` included (40_crc.md R71 to R73,
43_bus_control.md R104 to R108). -/
structure ControlFrame (s t : State) : Prop where
  mem : t.mem = s.mem
  addr : t.addr = s.addr
  xfer : t.xfer = s.xfer
  resp : t.resp = s.resp
  respx : t.respx = s.respx
  dtoken : t.dtoken = s.dtoken
  crc16Rx : t.crc16Rx = s.crc16Rx
  attempt : t.attempt = s.attempt
  derr : t.status.derr = s.status.derr
  attempts : t.status.attempts = s.status.attempts
  retryable : t.status.retryable = s.status.retryable
  needsCheck : t.status.needsCheck = s.status.needsCheck
  stopped : t.status.stopped = s.status.stopped

/-- A bus-control operation leaves the CRC registers alone too. -/
structure BusFrame (s t : State) : Prop extends ControlFrame s t where
  crc7 : t.crc7 = s.crc7
  crc16 : t.crc16 = s.crc16

/-- A CRC operation is off the wire (40_crc.md R71 to R73). -/
structure CrcOpFrame (s t : State) : Prop extends ControlFrame s t where
  wire : t.wire = s.wire
  cs : t.cs = s.cs
  card : t.card = s.card
  draws : t.draws = s.draws
  t0 : t.t0 = s.t0

/-- A relation holds between a state and the operation's next one if it allows moving `phase` and completing, and the
operation's own actions keep it. -/
theorem runPhase_rel {R : State → State → Prop} {legal : Bool} {first : Phase} {body : State → StepResult} {s t : State}
    (hsame : R s s) (hphase : ∀ p, R s (s.setPhase p)) (hfinish : ∀ e c, R s (s.finish e c))
    (hbody : body s = .next t → R s t) (h : runPhase legal first body s = .next t) : R s t := by
  obtain ⟨-, rfl⟩ | ⟨-, rfl⟩ | ⟨e, c, -, rfl⟩ | ⟨-, -, -, hb⟩ := runPhase_cases h
  · exact hsame
  · cases legal
    · exact hfinish ..
    · exact hphase _
  · exact hfinish e c
  · exact hbody hb

theorem ControlFrame.setPhase {s t : State} (h : ControlFrame s t) (p : Phase) : ControlFrame s (t.setPhase p) :=
  ⟨h.mem, h.addr, h.xfer, h.resp, h.respx, h.dtoken, h.crc16Rx, h.attempt, h.derr, h.attempts, h.retryable,
    h.needsCheck, h.stopped⟩

theorem ControlFrame.refl (s : State) : ControlFrame s s :=
  ⟨rfl, rfl, rfl, rfl, rfl, rfl, rfl, rfl, rfl, rfl, rfl, rfl, rfl⟩

theorem ControlFrame.finish (s : State) (e : ErrCode) (c : CompletionClass) : ControlFrame s (s.finish e c) :=
  ⟨rfl, rfl, rfl, rfl, rfl, rfl, rfl, rfl, rfl, rfl, rfl, rfl, rfl⟩

theorem BusFrame.setPhase {s t : State} (h : BusFrame s t) (p : Phase) : BusFrame s (t.setPhase p) :=
  ⟨h.toControlFrame.setPhase p, h.crc7, h.crc16⟩

theorem BusFrame.refl (s : State) : BusFrame s s := ⟨.refl s, rfl, rfl⟩

theorem runPhase_busFrame {legal : Bool} {first : Phase} {body : State → StepResult} {s t : State}
    (hbody : body s = .next t → BusFrame s t) (h : runPhase legal first body s = .next t) : BusFrame s t :=
  runPhase_rel (.refl s) (BusFrame.refl s).setPhase (fun e c => ⟨.finish s e c, rfl, rfl⟩) hbody h

theorem exchange_busFrame (tx : Byte) (s : State) : BusFrame s (s.exchange tx) :=
  ⟨⟨rfl, rfl, rfl, rfl, rfl, rfl, rfl, rfl, rfl, rfl, rfl, rfl, rfl⟩, rfl, rfl⟩

theorem driveCs_busFrame (v : Bool) (s : State) : BusFrame s (s.driveCs v) :=
  ⟨⟨rfl, rfl, rfl, rfl, rfl, rfl, rfl, rfl, rfl, rfl, rfl, rfl, rfl⟩, rfl, rfl⟩

theorem exchange_latch_busFrame (tx : Byte) (w : WaitPos) (s : State) : BusFrame s ((s.latch w).exchange tx) := by
  rw [State.exchange_latch]
  exact ⟨⟨rfl, rfl, rfl, rfl, rfl, rfl, rfl, rfl, rfl, rfl, rfl, rfl, rfl⟩, rfl, rfl⟩

theorem execWaitReady_busFrame {s t : State} (h : execWaitReady s = .next t) : BusFrame s t := by
  refine runPhase_busFrame (fun hb => ?_) h
  split at hb <;> cases hb
  unfold waitReadyStep
  dsimp only
  split <;> exact (exchange_latch_busFrame ..).setPhase _

theorem chipSelectOp_busFrame {v : Bool} {s t : State} (h : chipSelectOp v s = .next t) : BusFrame s t := by
  refine runPhase_busFrame (fun hb => ?_) h
  split at hb <;> cases hb
  exact (driveCs_busFrame v s).setPhase _

theorem execResync_busFrame {s t : State} (h : execResync s = .next t) : BusFrame s t := by
  refine runPhase_busFrame (fun hb => ?_) h
  split at hb <;> cases hb
  next p _ =>
    cases p with
    | low | high => exact (driveCs_busFrame ..).setPhase _
    | clock => exact (exchange_busFrame ..).setPhase _

theorem execIdle_busFrame {n : BitVec 11} {s t : State} (h : execIdle n s = .next t) : BusFrame s t := by
  refine runPhase_busFrame (fun hb => ?_) h
  split at hb <;> cases hb
  exact (exchange_busFrame ..).setPhase _

theorem crcOp_rel {R : State → State → Prop} {update : State → State} {s t : State} (hsame : R s s)
    (hphase : ∀ p, R s (s.setPhase p)) (hfinish : ∀ e c, R s (s.finish e c))
    (hupdate : R s ((update s).setPhase finishOk)) (h : crcOp update s = .next t) : R s t := by
  refine runPhase_rel hsame hphase hfinish (fun hb => ?_) h
  split at hb <;> cases hb
  exact hupdate

theorem crcOp_frame {update : State → State} {s t : State} (hu : CrcOpFrame s (update s))
    (h : crcOp update s = .next t) : CrcOpFrame s t :=
  crcOp_rel (R := CrcOpFrame) ⟨.refl s, rfl, rfl, rfl, rfl, rfl⟩
    (fun p => ⟨(ControlFrame.refl s).setPhase p, rfl, rfl, rfl, rfl, rfl⟩)
    (fun e c => ⟨.finish s e c, rfl, rfl, rfl, rfl, rfl⟩)
    ⟨hu.toControlFrame.setPhase _, hu.wire, hu.cs, hu.card, hu.draws, hu.t0⟩ h

theorem execCrcClear_frame {c7 c16 : Bool} {s t : State} (h : execCrcClear c7 c16 s = .next t) : CrcOpFrame s t :=
  crcOp_frame ⟨⟨rfl, rfl, rfl, rfl, rfl, rfl, rfl, rfl, rfl, rfl, rfl, rfl, rfl⟩, rfl, rfl, rfl, rfl, rfl⟩ h

theorem execCrc7Feed_frame {byte : Byte} {s t : State} (h : execCrc7Feed byte s = .next t) : CrcOpFrame s t :=
  crcOp_frame ⟨⟨rfl, rfl, rfl, rfl, rfl, rfl, rfl, rfl, rfl, rfl, rfl, rfl, rfl⟩, rfl, rfl, rfl, rfl, rfl⟩ h

theorem execCrc16Feed_frame {byte : Byte} {s t : State} (h : execCrc16Feed byte s = .next t) : CrcOpFrame s t :=
  crcOp_frame ⟨⟨rfl, rfl, rfl, rfl, rfl, rfl, rfl, rfl, rfl, rfl, rfl, rfl, rfl⟩, rfl, rfl, rfl, rfl, rfl⟩ h

theorem execCrc7Feed_crc16 {byte : Byte} {s t : State} (h : execCrc7Feed byte s = .next t) : t.crc16 = s.crc16 :=
  crcOp_rel (R := fun s t => t.crc16 = s.crc16) rfl (fun _ => rfl) (fun _ _ => rfl) rfl h

theorem execCrc16Feed_crc7 {byte : Byte} {s t : State} (h : execCrc16Feed byte s = .next t) : t.crc7 = s.crc7 :=
  crcOp_rel (R := fun s t => t.crc7 = s.crc7) rfl (fun _ => rfl) (fun _ _ => rfl) rfl h

/-- The CRC operations (40_crc.md, section 4). -/
def IsCrcOp (i : Instr) : Prop :=
  (∃ c7 c16, i = .crcClear c7 c16) ∨ (∃ b, i = .crc7Feed b) ∨ (∃ b, i = .crc16Feed b)

/-- What `CrcAndBusOperationsFrame` says of one step of the operation `i`. -/
structure CrcBusFrame (i : Instr) (s t : State) : Prop extends ControlFrame s t where
  offWire : IsCrcOp i → t.wire = s.wire ∧ t.cs = s.cs ∧ t.card = s.card ∧ t.draws = s.draws ∧ t.t0 = s.t0
  crc7 : (∀ c7 c16, i ≠ .crcClear c7 c16) → (∀ b, i ≠ .crc7Feed b) → t.crc7 = s.crc7
  crc16 : (∀ c7 c16, i ≠ .crcClear c7 c16) → (∀ b, i ≠ .crc16Feed b) → t.crc16 = s.crc16

theorem BusFrame.crcBus {i : Instr} {s t : State} (hi : ¬IsCrcOp i) (h : BusFrame s t) : CrcBusFrame i s t :=
  ⟨h.toControlFrame, fun hc => absurd hc hi, fun _ _ => h.crc7, fun _ _ => h.crc16⟩

theorem CrcOpFrame.crcBus {i : Instr} {s t : State} (h : CrcOpFrame s t)
    (h7 : (∀ c7 c16, i ≠ .crcClear c7 c16) → (∀ b, i ≠ .crc7Feed b) → t.crc7 = s.crc7)
    (h16 : (∀ c7 c16, i ≠ .crcClear c7 c16) → (∀ b, i ≠ .crc16Feed b) → t.crc16 = s.crc16) : CrcBusFrame i s t :=
  ⟨h.toControlFrame, fun _ => ⟨h.wire, h.cs, h.card, h.draws, h.t0⟩, h7, h16⟩

theorem exec_crcBusFrame {i : Instr} {s t : State} (hc : commandOf i = none) (hr : packetLength i = none)
    (hw : writeOf i = none) (h : exec i s = .next t) : CrcBusFrame i s t := by
  cases i with
  | crcClear c7 c16 => exact (execCrcClear_frame h).crcBus (fun hn => absurd rfl (hn _ _)) (fun hn => absurd rfl (hn _ _))
  | crc7Feed b => exact (execCrc7Feed_frame h).crcBus (fun _ hn => absurd rfl (hn _)) (fun _ _ => execCrc7Feed_crc16 h)
  | crc16Feed b => exact (execCrc16Feed_frame h).crcBus (fun _ _ => execCrc16Feed_crc7 h) (fun _ hn => absurd rfl (hn _))
  | waitReady => exact (execWaitReady_busFrame h).crcBus (by simp [IsCrcOp])
  | select | deselect => exact (chipSelectOp_busFrame h).crcBus (by simp [IsCrcOp])
  | resync => exact (execResync_busFrame h).crcBus (by simp [IsCrcOp])
  | idle n => exact (execIdle_busFrame h).crcBus (by simp [IsCrcOp])
  | sendCmdNone | sendCmdR1 | sendCmdR1B | sendCmdR2 | sendCmdR3 | sendCmdR7 => cases hc
  | receive | recvShort => cases hr
  | transmit | transmitM | transmitMF => cases hw

/-- Settles O40: `exec_crcBusFrame`, the frame of the eight operations in turn. -/
theorem crcAndBusOperationsFrame : Obligations.CrcAndBusOperationsFrame := by
  intro i s t hc hr hw h
  have hf := exec_crcBusFrame hc hr hw h
  exact ⟨State.byteAt_congr hf.mem, hf.addr, hf.xfer, hf.resp, hf.respx, hf.dtoken, hf.crc16Rx, hf.attempt, hf.derr,
    hf.attempts, hf.retryable, hf.needsCheck, hf.stopped, hf.offWire, hf.crc7, hf.crc16⟩

/-! ## The turns of the Engine and the host, inverted once -/

/-- The one inversion of the Engine's turn: nothing, a step of the operation in OP, or the decode step of a word that
selects no row (30_encoding.md R52). -/
theorem engineTurn_cases {s t : State} (h : engineTurn s = .next t) :
    t = s ∨ (s.phase ≠ .idle ∧ ∃ i, decode s.op = .ok i ∧ exec i s = .next t) ∨
      (s.phase = .decode ∧ t = s.finish .illegalOp .illegal) := by
  unfold engineTurn at h
  split at h
  · cases h
    exact .inl rfl
  next hidle =>
    split at h
    next i hi =>
      obtain he | rfl := keepStuck_eq_next h
      · exact .inr (.inl ⟨hidle, i, hi, he⟩)
      · exact .inl rfl
    next =>
      unfold illegalWordTurn at h
      split at h <;> cases h
      exact .inr (.inr ⟨‹_›, rfl⟩)

/-- The one inversion of the host's step: a read, a write to a slot, or a store to host memory. -/
theorem hostStep_cases {a : HostAction} {s t : State} (h : hostStep a s = .next t) :
    (∃ v, t = { s with readData := v }) ∨ (∃ sl w, t = writeSlot sl w s) ∨ (∃ b v, t = s.storeByte b v) := by
  have hread : ∀ size o, hostRegRead size o s = .next t → ∃ v, t = { s with readData := v } := by
    intro size o hr
    unfold hostRegRead at hr
    split at hr <;> cases hr
    exact ⟨_, rfl⟩
  have hwrite : ∀ size o w, hostRegWrite size o w s = .next t → ∃ sl w, t = writeSlot sl w s := by
    intro size o w hw
    unfold hostRegWrite at hw
    split at hw <;> cases hw
    exact ⟨_, _, rfl⟩
  cases a with
  | regRead | busRead => exact .inl (hread _ _ h)
  | regWrite | busWrite => exact .inr (.inl (hwrite _ _ _ h))
  | memRead => cases h; exact .inl ⟨_, rfl⟩
  | memWrite => cases h; exact .inr (.inr ⟨_, _, rfl⟩)

/-! ## When DONE rises -/

theorem exec_done_rises {i : Instr} {s t : State} (h : exec i s = .next t) (hs : s.status.done = false)
    (ht : t.status.done = true) : ∃ e c, t = s.finish e c ∧
      (s.phase = .finish e c ∨ (s.phase = .decode ∧ e = .illegalOp ∧ c = .illegal)) := by
  obtain ⟨-, rfl⟩ | ⟨hp, rfl⟩ | ⟨e, c, hp, rfl⟩ | ⟨-, hf⟩ := exec_cases h
  · simp [hs] at ht
  · generalize legalOp i s.count = legal at ht ⊢
    cases legal with
    | false => exact ⟨_, _, rfl, .inr ⟨hp, rfl, rfl⟩⟩
    | true => simp [hs] at ht
  · exact ⟨e, c, rfl, .inl hp⟩
  · simp [hf.done, hs] at ht

theorem engineTurn_done_rises {s t : State} (h : engineTurn s = .next t) (hs : s.status.done = false)
    (ht : t.status.done = true) : ∃ e c, t = s.finish e c ∧
      (s.phase = .finish e c ∨ (s.phase = .decode ∧ e = .illegalOp ∧ c = .illegal)) := by
  obtain rfl | ⟨-, i, -, he⟩ | ⟨hp, rfl⟩ := engineTurn_cases h
  · simp [hs] at ht
  · exact exec_done_rises he hs ht
  · exact ⟨_, _, rfl, .inr ⟨hp, rfl, rfl⟩⟩

/-- A host write only clears DONE (10_state.md R23, R24). -/
theorem writeSlot_done {sl : Slot} {w : Word} {s : State} (hs : s.status.done = false) :
    (writeSlot sl w s).status.done = false := by
  unfold writeSlot
  split
  · simp [Status.writeOneToClear, hs]
  · split
    · exact hs
    · cases sl with
      | op => rfl
      | _ => exact hs

theorem hostStep_done {a : HostAction} {s t : State} (h : hostStep a s = .next t) (hs : s.status.done = false) :
    t.status.done = false := by
  obtain ⟨v, rfl⟩ | ⟨sl, w, rfl⟩ | ⟨b, v, rfl⟩ := hostStep_cases h
  · exact hs
  · exact writeSlot_done hs
  · exact hs

/-- Only the Engine's turn raises DONE. -/
theorem takeTurn_done {u : Turn} {s t : State} (hu : u ≠ .engine) (h : takeTurn u s = .next t)
    (hs : s.status.done = false) : t.status.done = false := by
  cases u with
  | engine => exact absurd rfl hu
  | exchangeStarts => cases h; simpa using hs
  | tick => cases h; exact hs
  | host a => exact hostStep_done h hs
  | reset => cases h; rfl

theorem State.nextTurn_eq_engine {s : State} (h : s.nextTurn = .engine) :
    s.sched = [] ∨ s.sched.head? = some .engine := by
  unfold State.nextTurn at h
  cases hs : s.sched with
  | nil => exact .inl rfl
  | cons u rest => simp_all

/-- Settles O43: only the Engine raises DONE, and `exec` only at `Finish` or at the decode of an illegal word. -/
theorem doneRisesOnlyAtFinish : Obligations.DoneRisesOnlyAtFinish := by
  intro s t h hs ht
  rw [step_eq_takeTurn] at h
  have hu : s.nextTurn = .engine := by
    by_contra hu
    have hdown := takeTurn_done hu h hs
    simp [hdown] at ht
  rw [hu] at h
  obtain ⟨e, c, rfl, hp⟩ := engineTurn_done_rises h hs ht
  exact ⟨s.nextTurn_eq_engine hu, rfl, hp.imp (fun hp => ⟨e, c, hp, rfl, rfl⟩) id⟩

end Sys2Proof.Machine
end

section
/-! PROOFS. Every step of every agent keeps the invariant (10_state.md R12, R24, R25; 60_exceptions.md R114): the
invariant taken apart by position, each operation's own actions, then the agents' turns. -/

namespace Sys2Proof.Machine

/-! ## The invariant, taken apart -/

theorem recordClear_iff {s : State} :
    recordClear s = true ↔
      s.status.retryable = false ∧ s.status.needsCheck = false ∧ s.status.stopped = false := by
  simp [recordClear, and_assoc]

/-- ATTEMPTS is at most CMD_RETRY (41_command.md R82). -/
def State.attemptsFit (s : State) : Prop := s.status.attempts.toNat ≤ s.ctrl.cmdRetry.toNat

/-- What the invariant says of STATUS while an operation runs. -/
structure BusyRecord (s : State) : Prop where
  busy : s.status.busy = true
  done : s.status.done = false
  err : s.status.err = .noError
  cls : s.status.cls = .ok
  attempts : s.attemptsFit

/-- What the invariant says of STATUS while no operation runs. -/
structure IdleRecord (s : State) : Prop where
  busy : s.status.busy = false
  pair : s.status.err = .noError ↔ s.status.cls = .ok
  retryable : s.status.retryable = retryablePair s.status.err s.status.cls

theorem statusFits_of_idle {s : State} (hp : s.phase = .idle) : statusFits s = true ↔ IdleRecord s := by
  have hbusy : statusFits s = true → s.status.busy = false := by simp +contextual [statusFits, hp]
  constructor
  · intro h
    have hb := hbusy h
    simp only [statusFits, hp, hb] at h
    obtain ⟨hpair, hretry⟩ : _ ∧ _ := by simpa using h
    exact ⟨hb, hpair, hretry⟩
  · rintro ⟨hb, hpair, hretry⟩
    simp [statusFits, hp, hb, hpair, hretry]

theorem statusFits_of_ne_idle {s : State} (hp : s.phase ≠ .idle) : statusFits s = true ↔ BusyRecord s := by
  have hne : (s.phase != .idle) = true := by simpa using hp
  constructor
  · intro h
    simp only [statusFits, hne] at h
    have hb : s.status.busy = true := by
      by_contra hb
      simp [hb] at h
    obtain ⟨⟨⟨hd, he⟩, hc⟩, ha⟩ : ((_ ∧ _) ∧ _) ∧ _ := by simpa [hb] using h
    exact ⟨hb, hd, he, hc, ha⟩
  · rintro ⟨hb, hd, he, hc, ha⟩
    simpa [statusFits, hne, hb, hd, he, hc, State.attemptsFit] using ha

theorem State.inv_of_idle {s : State} (hp : s.phase = .idle) :
    s.inv = true ↔ s.mem.wf = true ∧ IdleRecord s := by
  simp [State.inv, hp, statusFits_of_idle hp]

theorem State.inv_of_decode {s : State} (hp : s.phase = .decode) :
    s.inv = true ↔
      s.mem.wf = true ∧ BusyRecord s ∧ recordClear s = true ∧ s.status.attempts = 0#4 := by
  have hne : s.phase ≠ .idle := by simp [hp]
  simp [State.inv, hp, statusFits_of_ne_idle hne, and_assoc]

/-- Past the decode step the word in OP is a legal operation that stands at one of its positions (10_state.md R25). -/
theorem State.inv_of_running {s : State} (hi : s.phase ≠ .idle) (hd : s.phase ≠ .decode) :
    s.inv = true ↔
      s.mem.wf = true ∧ BusyRecord s ∧
        ∃ i, decode s.op = .ok i ∧ legalOp i s.count = true ∧ phaseFits i s = true := by
  unfold State.inv
  split
  next h => exact absurd h hi
  next h => exact absurd h hd
  next =>
    cases hw : decode s.op <;> simp [statusFits_of_ne_idle hi, and_assoc]

theorem State.inv_mem_wf {s : State} (h : s.inv = true) : s.mem.wf = true := by
  simp only [State.inv, Bool.and_eq_true] at h
  exact h.1.1

theorem State.inv_statusFits {s : State} (h : s.inv = true) : statusFits s = true := by
  simp only [State.inv, Bool.and_eq_true] at h
  exact h.1.2

theorem State.phase_of_inv_of_not_busy {s : State} (h : s.inv = true) (hb : s.status.busy = false) :
    s.phase = .idle := by
  by_contra hp
  have hbusy := ((statusFits_of_ne_idle hp).mp (State.inv_statusFits h)).busy
  simp [hb] at hbusy

/-! ## The positions -/

/-! The record and a position of CmdCore are read past a move of `phase`. -/

@[simp] theorem recordClear_setPhase (p : Phase) (s : State) : recordClear (s.setPhase p) = recordClear s := rfl

@[simp] theorem recordClear_startData (p : Phase) (s : State) : recordClear (startData p s) = recordClear s := rfl

@[simp] theorem startData_phase (p : Phase) (s : State) : (startData p s).phase = p := rfl

@[simp] theorem startData_xfer (p : Phase) (s : State) : (startData p s).xfer = 0#16 := rfl

@[simp] theorem cmdFits_setPhase (kind : RKind) (idx : BitVec 6) (q : CmdPos) (p : Phase) (s : State) :
    cmdFits kind idx q (s.setPhase p) = cmdFits kind idx q s := by
  cases q <;> rfl

theorem phaseFits_finish {i : Instr} {s : State} {e : ErrCode} {c : CompletionClass} (hp : s.phase = .finish e c) :
    phaseFits i s = endFits i e c s := by
  simp [phaseFits, hp]

/-- Neither IDLE nor DECODE is a position of an operation's pseudocode. -/
theorem phaseFits_ne {i : Instr} {s : State} (h : phaseFits i s = true) : s.phase ≠ .idle ∧ s.phase ≠ .decode := by
  constructor <;> (intro hp; cases i <;> simp [phaseFits, hp, commandFits, transmitFits] at h)

/-- The first action of a legal operation is one of its positions (30_encoding.md R52). -/
theorem phaseFits_firstAction {i : Instr} {s : State} (hl : legalOp i s.count = true) (hc : recordClear s = true) :
    phaseFits i (s.setPhase (firstAction i)) = true := by
  cases i with
  | idle n =>
    simp only [legalOp, Instr.wf, Bool.and_eq_true, decide_eq_true_eq] at hl
    simp [phaseFits, firstAction, hc]
    omega
  | _ => simp [phaseFits, firstAction, commandFits, cmdFits, transmitFits, hc]

/-- Whether a wait's first exchange has begun is no part of the position the invariant sees (assumption log 20). -/
theorem phaseFits_started (i : Instr) (s : State) (v : Word) :
    phaseFits i { s with t0 := v, phase := s.phase.started } = phaseFits i s := by
  unfold Phase.started
  split
  case h_7 => rfl
  case h_5 f hp => cases f <;> cases i <;> simp only [phaseFits, transmitFits, commandFits, hp] <;> rfl
  all_goals
    rename_i hp
    cases i <;> simp only [phaseFits, transmitFits, commandFits, hp] <;> rfl

/-- In every completion of R114 ERR and CLASS are NO_ERROR and OK together. -/
theorem completions_pair {i : Instr} {e : ErrCode} {c : CompletionClass} (h : (e, c) ∈ completions i) :
    e = .noError ↔ c = .ok := by
  have hall : ∀ p ∈ completions i, p.1 = ErrCode.noError ↔ p.2 = CompletionClass.ok := by
    cases i <;> simp [completions, commandCompletions, readCompletions, writeCompletions]
  exact hall (e, c) h

theorem retryablePair_onDrive (cls : CompletionClass) : retryablePair .onDrive cls = false := by
  cases cls <;> rfl

/-- The record an operation completes with, part by part. -/
theorem endFits_iff {i : Instr} {s : State} {e : ErrCode} {c : CompletionClass} :
    endFits i e c s = true ↔
      (e, c) ∈ completions i ∧ s.status.retryable = retryablePair e c ∧ s.status.stopped = stoppedAt i e ∧
        s.status.needsCheck = needsCheckAt i e c s.count ∧ xferAt i e s = true := by
  simp [endFits, and_assoc]

/-- A `Finish` position fits when its completion and the record before it do. -/
theorem phaseFits_of_end {i : Instr} {s : State} {e : ErrCode} {c : CompletionClass} (hp : s.phase = .finish e c)
    (hmem : (e, c) ∈ completions i) (hr : s.status.retryable = retryablePair e c)
    (hs : s.status.stopped = stoppedAt i e) (hn : s.status.needsCheck = needsCheckAt i e c s.count)
    (hx : xferAt i e s = true) : phaseFits i s = true := by
  rw [phaseFits_finish hp]
  exact endFits_iff.mpr ⟨hmem, hr, hs, hn, hx⟩

/-! ## CmdCore (41_command.md R84) -/

/-- The classes CmdCore returns: OK alone without a response, else an R1's or TIMEOUT (41_command.md R82, R86). -/
def cmdEnds (kind : RKind) (cls : CompletionClass) : Prop :=
  if kind = .noResp then cls = .ok else isR1Class cls = true ∨ cls = .timeout

/-- After an action of CmdCore: ATTEMPTS within CMD_RETRY, and a position or a class of its own. -/
structure CmdKeeps (kind : RKind) (idx : BitVec 6) (r : State × CmdNext) : Prop where
  attempts : r.1.attemptsFit
  goOn : ∀ p, r.2 = .goOn p → cmdFits kind idx p r.1 = true
  done : ∀ cls, r.2 = .done cls → cmdEnds kind cls

theorem CmdKeeps.of_goOn {kind : RKind} {idx : BitVec 6} {t : State} {p : CmdPos} (ha : t.attemptsFit)
    (hp : cmdFits kind idx p t = true) : CmdKeeps kind idx (t, .goOn p) :=
  ⟨ha, fun _ h => by cases h; exact hp, nofun⟩

theorem CmdKeeps.of_done {kind : RKind} {idx : BitVec 6} {t : State} {cls : CompletionClass} (ha : t.attemptsFit)
    (hc : cmdEnds kind cls) : CmdKeeps kind idx (t, .done cls) :=
  ⟨ha, nofun, fun _ h => by cases h; exact hc⟩

theorem isR1Class_classifyR1 (r : Byte) : isR1Class (classifyR1 r) = true := by
  unfold classifyR1
  repeat' split
  all_goals rfl

/-- The end of an attempt (41_command.md R82): a retry is counted only below CMD_RETRY. -/
theorem attemptEnd_keeps {kind : RKind} {idx : BitVec 6} {cls : CompletionClass} {retryable : Bool} {s : State}
    (hk : kind ≠ .noResp) (ha : s.attemptsFit)
    (hc : isR1Class cls = true ∨ cls = .timeout) : CmdKeeps kind idx (attemptEnd cls retryable s) := by
  unfold attemptEnd
  split
  next hr =>
    simp only [Bool.and_eq_true, decide_eq_true_eq] at hr
    have hlt := hr.2
    refine .of_goOn ?_ (by simp [cmdFits, hk])
    have hle : (s.attempt + 1#4).toNat ≤ s.attempt.toNat + 1 := by
      rw [BitVec.toNat_add]
      exact Nat.mod_le _ _
    exact hle.trans hlt
  next => exact .of_done ha (by simpa [cmdEnds, hk] using hc)

theorem r1Found_keeps {kind : RKind} {idx : BitVec 6} {rx : Byte} {s : State} (hk : kind ≠ .noResp)
    (hs : s.status.attempts = s.attempt) (ha : s.attemptsFit) : CmdKeeps kind idx (r1Found idx kind rx s) := by
  have hcls := isR1Class_classifyR1 (maskR1 idx rx)
  cases kind with
  | noResp => exact absurd rfl hk
  | r1 => exact attemptEnd_keeps hk ha (.inl hcls)
  | r1b | r2 | r3 | r7 => exact .of_goOn ha (by simp [cmdFits, tailBytes, hcls, hs])

theorem frameStep_keeps {kind : RKind} {idx : BitVec 6} {arg : Word} {k : Nat} {s : State}
    (hs : s.status.attempts = s.attempt) (ha : s.attemptsFit) : CmdKeeps kind idx (frameStep idx arg kind k s) := by
  unfold frameStep sendFrameEnd
  split
  next hk => exact .of_goOn ha (by simp [cmdFits, sendFrameByte, hs]; omega)
  next =>
    split
    next hn => exact .of_done ha (by simp [cmdEnds, hn])
    next hn =>
      refine .of_goOn ha ?_
      split <;> simp [cmdFits, *]

theorem pollStep_keeps {kind : RKind} {idx : BitVec 6} {k : Nat} {s : State} (hk : kind ≠ .noResp)
    (hs : s.status.attempts = s.attempt) (ha : s.attemptsFit) : CmdKeeps kind idx (pollStep idx kind k s) := by
  unfold pollStep
  dsimp only
  split
  · exact r1Found_keeps hk hs ha
  · split
    next hlt => exact .of_goOn ha (by simp [cmdFits, hk, hs, hlt])
    next => exact attemptEnd_keeps hk ha (.inr rfl)

theorem tailStep_keeps {kind : RKind} {idx : BitVec 6} {k : Nat} {cls : CompletionClass} {s : State}
    (hk : kind ≠ .noResp) (hcls : isR1Class cls = true) (hs : s.status.attempts = s.attempt) (ha : s.attemptsFit) :
    CmdKeeps kind idx (tailStep kind k cls s) := by
  unfold tailStep
  dsimp only
  split
  next hlt => exact .of_goOn ha (by simp [cmdFits, hlt, hcls, hs])
  next => exact attemptEnd_keeps hk ha (.inl hcls)

theorem busyStep_keeps {kind : RKind} {idx : BitVec 6} {w : WaitPos} {cls : CompletionClass} {s : State}
    (hk : kind = .r1b) (hcls : isR1Class cls = true) (hs : s.status.attempts = s.attempt) (ha : s.attemptsFit) :
    CmdKeeps kind idx (busyStep w cls s) := by
  subst hk
  rw [busyStep_eq]
  split
  · exact attemptEnd_keeps nofun ha (.inl hcls)
  · split
    · exact attemptEnd_keeps nofun ha (.inr rfl)
    · exact .of_goOn ha (by simp [cmdFits, hcls, hs])

/-- Every action of CmdCore goes from a position of CmdCore to one, or returns one of its classes. -/
theorem cmdStep_keeps {kind : RKind} {idx : BitVec 6} {arg : Word} {p : CmdPos} {s : State}
    (hf : cmdFits kind idx p s = true) (ha : s.attemptsFit) : CmdKeeps kind idx (cmdStep idx arg kind p s) := by
  cases p with
  | start => exact frameStep_keeps rfl (Nat.zero_le _)
  | frame k =>
    simp only [cmdFits, Bool.and_eq_true, beq_iff_eq] at hf
    exact frameStep_keeps hf.2 ha
  | stuff =>
    simp only [cmdFits, Bool.and_eq_true, beq_iff_eq, bne_iff_ne] at hf
    obtain ⟨⟨hk, -⟩, hs⟩ := hf
    exact .of_goOn ha (by simp [cmdFits, hk, hs])
  | poll k =>
    simp only [cmdFits, Bool.and_eq_true, beq_iff_eq, bne_iff_ne] at hf
    obtain ⟨⟨hk, -⟩, hs⟩ := hf
    exact pollStep_keeps hk hs ha
  | tail k cls =>
    simp only [cmdFits, Bool.and_eq_true, beq_iff_eq, decide_eq_true_eq] at hf
    obtain ⟨⟨hlt, hcls⟩, hs⟩ := hf
    have hk : kind ≠ .noResp := by rintro rfl; simp [tailBytes] at hlt
    exact tailStep_keeps hk hcls hs ha
  | busy w cls =>
    simp only [cmdFits, Bool.and_eq_true, beq_iff_eq] at hf
    obtain ⟨⟨hk, hcls⟩, hs⟩ := hf
    exact busyStep_keeps hk hcls hs ha
  | resync q =>
    simp only [cmdFits, Bool.and_eq_true, beq_iff_eq, bne_iff_ne] at hf
    obtain ⟨hk, hs⟩ := hf
    cases q <;> exact .of_goOn ha (by simp [cmdFits, hk, hs])

/-! ## SEND_CMD (41_command.md R85) -/

theorem phaseFits_command {i : Instr} {kind : RKind} {idx : BitVec 6} (hi : commandOf i = some (kind, idx)) {s : State}
    {p : CmdPos} (hp : s.phase = .command p) : phaseFits i s = (cmdFits kind idx p s && recordClear s) := by
  cases i <;> simp [commandOf] at hi <;> obtain ⟨rfl, rfl⟩ := hi <;> simp [phaseFits, hp, commandFits]

/-- The classes of CmdCore complete SEND_CMD as rows of its part of R114. -/
theorem sendCmd_completions {i : Instr} {kind : RKind} {idx : BitVec 6} (hi : commandOf i = some (kind, idx))
    {cls : CompletionClass} (hcls : cmdEnds kind cls) (hne : cls ≠ .ok) : (.onDrive, cls) ∈ completions i := by
  unfold cmdEnds at hcls
  split at hcls
  · exact absurd hcls hne
  next hk =>
    have hcomp : completions i = commandCompletions := by
      cases i <;> simp [commandOf] at hi <;> simp_all [completions]
    rw [hcomp]
    cases cls <;> simp_all [isR1Class, commandCompletions]

/-- A SEND_CMD completes with no mark of a data operation (41_command.md R85). -/
theorem sendCmd_marks {i : Instr} {kind : RKind} {idx : BitVec 6} (hi : commandOf i = some (kind, idx)) (e : ErrCode)
    (c : CompletionClass) (s : State) :
    stoppedAt i e = false ∧ needsCheckAt i e c s.count = false ∧ xferAt i e s = true := by
  cases i with
  | sendCmdNone | sendCmdR1 | sendCmdR1B | sendCmdR2 | sendCmdR3 | sendCmdR7 => exact ⟨rfl, rfl, rfl⟩
  | _ => cases hi

/-- SEND_CMD stands before a completion of its rows in R114 (41_command.md R85). -/
theorem phaseFits_sendCmdFinish {i : Instr} {kind : RKind} {idx : BitVec 6} (hi : commandOf i = some (kind, idx))
    {s : State} {cls : CompletionClass} (hcls : cmdEnds kind cls) (hc : recordClear s = true) :
    phaseFits i (s.setPhase (sendCmdFinish cls)) = true := by
  obtain ⟨hr, hn, hs⟩ := recordClear_iff.mp hc
  have hend : ∀ e c, (e, c) ∈ completions i → retryablePair e c = false →
      phaseFits i (s.setPhase (.finish e c)) = true := by
    intro e c hec hp
    obtain ⟨hstop, hcheck, hxfer⟩ := sendCmd_marks hi e c s
    exact phaseFits_of_end rfl hec (hr.trans hp.symm) (hs.trans hstop.symm) (hn.trans hcheck.symm) hxfer
  unfold sendCmdFinish
  split
  · exact hend _ _ (by cases i <;> simp [completions, commandCompletions, readCompletions, writeCompletions]) rfl
  next hne => exact hend _ _ (sendCmd_completions hi hcls hne) (retryablePair_onDrive cls)

theorem CmdFrame.recordClear {s t : State} (h : CmdFrame s t) (hc : recordClear s = true) :
    Machine.recordClear t = true := by
  obtain ⟨hr, hn, hs⟩ := recordClear_iff.mp hc
  exact recordClear_iff.mpr ⟨h.retryable.trans hr, h.needsCheck.trans hn, h.stopped.trans hs⟩

/-- What an action of the operation `i` keeps of the invariant: its position and the bound on ATTEMPTS. -/
structure RunKeeps (i : Instr) (t : State) : Prop where
  fits : phaseFits i t = true
  attempts : t.attemptsFit

theorem sendCmdBody_keeps {i : Instr} {kind : RKind} {idx : BitVec 6} (hi : commandOf i = some (kind, idx))
    {s t : State} (hp : s.phase.IsAction) (hf : phaseFits i s = true) (ha : s.attemptsFit)
    (h : sendCmdBody kind idx s = .next t) : RunKeeps i t := by
  rw [sendCmdBody, runPhase_of_isAction hp] at h
  split at h <;> cases h
  next p hcmd =>
    rw [phaseFits_command hi hcmd, Bool.and_eq_true] at hf
    obtain ⟨hfit, hclear⟩ := hf
    have hk := cmdStep_keeps (arg := s.arg) hfit ha
    have hclear' := (cmdStep_frame idx s.arg kind p s).recordClear hclear
    generalize cmdStep idx s.arg kind p s = r at hk hclear'
    obtain ⟨u, q | cls⟩ := r
    · have hgo : phaseFits i (sendCmdNext (u, .goOn q)) = true := by
        rw [phaseFits_command hi rfl]
        exact Bool.and_eq_true_iff.mpr ⟨hk.goOn q rfl, hclear'⟩
      exact ⟨hgo, hk.attempts⟩
    · exact ⟨phaseFits_sendCmdFinish hi (hk.done cls rfl) hclear', hk.attempts⟩

/-! ## The CRC and bus-control operations -/

theorem ActionFrame.attemptsFit {s t : State} (h : ActionFrame s t) (hs : t.status.attempts = s.status.attempts)
    (ha : s.attemptsFit) : t.attemptsFit := by
  unfold State.attemptsFit
  rw [hs, h.ctrl]
  exact ha

/-- The record of the CRC and bus-control operations stays clear up to their completion. -/
theorem recordClear_of_phaseFits_control {i : Instr} {s : State} (hi : commandOf i = none)
    (hr : packetLength i = none) (hw : writeOf i = none) (hp : s.phase.IsAction) (hf : phaseFits i s = true) :
    recordClear s = true := by
  unfold phaseFits at hf
  split at hf
  next e c h => exact absurd h (hp.ne_finish e c)
  next =>
    cases i with
    | crcClear | crc7Feed | crc16Feed | select | deselect => exact (Bool.and_eq_true_iff.mp hf).2
    | waitReady | resync =>
      dsimp only at hf
      split at hf
      · exact hf
      · cases hf
    | idle n =>
      dsimp only at hf
      split at hf
      · exact (Bool.and_eq_true_iff.mp hf).2
      · cases hf
    | sendCmdNone | sendCmdR1 | sendCmdR1B | sendCmdR2 | sendCmdR3 | sendCmdR7 => cases hi
    | receive | recvShort => cases hr
    | transmit | transmitM | transmitMF => cases hw

/-- Where the CRC and bus-control operations go on to: their completion, WAIT_READY's other completion, or their next
position. -/
theorem exec_control_phase {i : Instr} {s t : State} (hi : commandOf i = none) (hr : packetLength i = none)
    (hw : writeOf i = none) (hp : s.phase.IsAction) (h : exec i s = .next t) :
    t.phase = finishOk ∨
      (i = .waitReady ∧ (t.phase = .finish .onDrive .timeout ∨ ∃ w, t.phase = .waitReady w)) ∨
      (i = .resync ∧ ∃ q, t.phase = .resync q) ∨
      (∃ n j, i = .idle n ∧ j < n.toNat ∧ t.phase = .idleByte j) := by
  have hcrc : ∀ update, crcOp update s = .next t → t.phase = finishOk := by
    intro update hu
    rw [crcOp, runPhase_of_isAction hp] at hu
    split at hu <;> cases hu
    rfl
  have hcs : ∀ v, chipSelectOp v s = .next t → t.phase = finishOk := by
    intro v hv
    rw [chipSelectOp, runPhase_of_isAction hp] at hv
    split at hv <;> cases hv
    rfl
  cases i with
  | crcClear c7 c16 =>
    rw [exec, execCrcClear] at h
    exact .inl (hcrc _ h)
  | crc7Feed byte =>
    rw [exec, execCrc7Feed] at h
    exact .inl (hcrc _ h)
  | crc16Feed byte =>
    rw [exec, execCrc16Feed] at h
    exact .inl (hcrc _ h)
  | select | deselect => exact .inl (hcs _ h)
  | waitReady =>
    rw [exec, execWaitReady, runPhase_of_isAction hp] at h
    split at h <;> cases h
    unfold waitReadyStep
    dsimp only
    split
    · exact .inl rfl
    · exact .inr (.inl ⟨rfl, .inl rfl⟩)
    · exact .inr (.inl ⟨rfl, .inr ⟨_, rfl⟩⟩)
  | resync =>
    rw [exec, execResync, runPhase_of_isAction hp] at h
    split at h <;> cases h
    next q _ =>
      cases q with
      | low | clock => exact .inr (.inr (.inl ⟨rfl, _, rfl⟩))
      | high => exact .inl rfl
  | idle n =>
    rw [exec, execIdle, runPhase_of_isAction hp] at h
    split at h <;> cases h
    next j _ =>
      by_cases hj : j + 1 < n.toNat
      · exact .inr (.inr (.inr ⟨n, j + 1, rfl, hj, by simp [hj]⟩))
      · exact .inl (by simp [hj])
  | sendCmdNone | sendCmdR1 | sendCmdR1B | sendCmdR2 | sendCmdR3 | sendCmdR7 => cases hi
  | receive | recvShort => cases hr
  | transmit | transmitM | transmitMF => cases hw

theorem phaseFits_finishOk_control {i : Instr} {t : State} (hi : commandOf i = none) (hr : packetLength i = none)
    (hw : writeOf i = none) (hc : recordClear t = true) (hp : t.phase = finishOk) : phaseFits i t = true := by
  obtain ⟨h1, h2, h3⟩ := recordClear_iff.mp hc
  cases i with
  | sendCmdNone | sendCmdR1 | sendCmdR1B | sendCmdR2 | sendCmdR3 | sendCmdR7 => cases hi
  | receive | recvShort => cases hr
  | transmit | transmitM | transmitMF => cases hw
  | _ => exact phaseFits_of_end hp (List.mem_cons_self ..) h1 h3 h2 rfl

theorem exec_control_keeps {i : Instr} {s t : State} (hi : commandOf i = none) (hr : packetLength i = none)
    (hw : writeOf i = none) (hp : s.phase.IsAction) (hf : phaseFits i s = true) (ha : s.attemptsFit)
    (h : exec i s = .next t) : RunKeeps i t := by
  have hframe := (exec_crcBusFrame hi hr hw h).toControlFrame
  have hclear : recordClear t = true := by
    obtain ⟨h1, h2, h3⟩ := recordClear_iff.mp (recordClear_of_phaseFits_control hi hr hw hp hf)
    exact recordClear_iff.mpr ⟨hframe.retryable.trans h1, hframe.needsCheck.trans h2, hframe.stopped.trans h3⟩
  refine ⟨?_, (exec_action hp h).attemptsFit hframe.attempts ha⟩
  obtain hq | ⟨rfl, hq | ⟨w, hq⟩⟩ | ⟨rfl, q, hq⟩ | ⟨n, j, rfl, hj, hq⟩ := exec_control_phase hi hr hw hp h
  · exact phaseFits_finishOk_control hi hr hw hclear hq
  · obtain ⟨h1, h2, h3⟩ := recordClear_iff.mp hclear
    exact phaseFits_of_end hq (by decide) h1 h3 h2 rfl
  · simpa [phaseFits, hq] using hclear
  · simpa [phaseFits, hq] using hclear
  · simpa [phaseFits, hq, hj] using hclear

/-! ## RecvPacket and the read operations (42_data_transfer.md R93 to R96) -/

/-- Where an action of RecvPacket(n) goes on to, and the one step that counts a block. -/
inductive RecvOutcome (n : Nat) (s : State) : State × RecvNext → Prop where
  | goOn {t : State} {q : RecvPos} (hq : recvFits n q = true) (hx : t.xfer = s.xfer) : RecvOutcome n s (t, .goOn q)
  | good {t : State} (hx : t.xfer = s.xfer + 1#16) : RecvOutcome n s (t, .good)
  | failed {t : State} {f : Failure} (hf : f ∈ readFailures) (hx : t.xfer = s.xfer) :
    RecvOutcome n s (t, .failed f)

theorem recvFits_dataFrom (n j : Nat) : recvFits n (dataFrom n j) = true := by
  unfold dataFrom
  split <;> simp [recvFits, *]

theorem dataErrorFailure_mem (tok : Byte) : dataErrorFailure tok ∈ readFailures := by
  unfold dataErrorFailure
  split <;> decide

theorem recvToken_outcome (n : Nat) (w : WaitPos) (s : State) : RecvOutcome n s (recvToken n w s) := by
  rw [recvToken_eq]
  dsimp only
  split
  · split
    · exact .failed (by decide) rfl
    · exact .goOn rfl rfl
  · split
    · exact .goOn (recvFits_dataFrom ..) rfl
    · exact .failed (dataErrorFailure_mem _) rfl
    · exact .failed (by decide) rfl

theorem recvStep_outcome {n : Nat} {p : RecvPos} {s : State} {r : State × RecvNext} (h : recvStep n p s = some r) :
    RecvOutcome n s r := by
  cases p with
  | token w =>
    cases h
    exact recvToken_outcome n w s
  | data j =>
    simp only [recvStep] at h
    split at h <;> cases h
    exact .goOn (recvFits_dataFrom ..) rfl
  | crcHi =>
    cases h
    exact .goOn rfl rfl
  | crcLo =>
    cases h
    unfold recvCrcLo
    dsimp only
    split
    · exact .good rfl
    · exact .failed (by decide) rfl

theorem RecvFrame.recordClear {s t : State} (h : RecvFrame s t) (hc : recordClear s = true) :
    Machine.recordClear t = true := by
  obtain ⟨hr, hn, hs⟩ := recordClear_iff.mp hc
  exact recordClear_iff.mpr ⟨h.retryable.trans hr, h.needsCheck.trans hn, h.stopped.trans hs⟩

/-- Below COUNT the count of the blocks does not wrap (10_state.md R17). -/
theorem toNat_xfer_add_one {x c : BitVec 16} (h : x.toNat < c.toNat) : (x + 1#16).toNat = x.toNat + 1 := by
  have := c.isLt
  rw [BitVec.toNat_add, BitVec.toNat_ofNat]
  omega

/-- The next block of a read, or its completion after the last (42_data_transfer.md R95). -/
theorem phaseFits_recvBlock {t : State} {k : Nat} (hp : t.phase = recvBlock t.count k) (hc : recordClear t = true)
    (hx : t.xfer.toNat = k) (hk : k ≤ t.count.toNat) : phaseFits .receive t = true := by
  unfold recvBlock at hp
  split at hp
  next hlt => simp [phaseFits, hp, hc, hx, hlt, recvFits]
  next hge =>
    obtain ⟨hr, hn, hs⟩ := recordClear_iff.mp hc
    have hxc : t.xfer = t.count := BitVec.eq_of_toNat_eq (by omega)
    exact phaseFits_of_end hp (by decide) hr hs hn (by simp [xferAt, hxc])

/-- A packet's failure is a row of R114 for both read operations, and, with a failed stop, one of RECEIVE's. -/
theorem readFailure_completes : ∀ f ∈ readFailures,
    f.err ≠ .noError ∧ f.retryable = retryablePair f.err f.cls ∧ (f.err, f.cls) ∈ readCompletions ∧
      (.onDrive, f.cls) ∈ completions .receive := by
  decide

/-- The two ways the automatic CMD12 ends a failed RECEIVE (42_data_transfer.md R94). -/
theorem phaseFits_autoStopNext_done {t : State} {f : Failure} {cls : CompletionClass} (hf : f ∈ readFailures)
    (hx : t.xfer.toNat < t.count.toNat) (hr : t.status.retryable = f.retryable)
    (hn : t.status.needsCheck = false) : phaseFits .receive (autoStopNext f (t, .done cls)) = true := by
  have hle : t.xfer.toNat ≤ t.count.toNat := hx.le
  obtain ⟨herr, hpair, hdata, hstop⟩ := readFailure_completes f hf
  have hs : true = stoppedAt .receive f.err := by simpa [stoppedAt] using herr
  simp only [autoStopNext]
  split
  · exact phaseFits_of_end rfl (by simp [completions, hdata]) (hr.trans hpair) hs hn (by simp [xferAt, hle, herr])
  · exact phaseFits_of_end rfl hstop (retryablePair_onDrive _).symm rfl hn (by simp [xferAt, hle])

theorem execReceive_keeps {s t : State} (hp : s.phase.IsAction) (hf : phaseFits .receive s = true)
    (ha : s.attemptsFit) (h : execReceive s = .next t) : RunKeeps .receive t := by
  rw [execReceive, runPhase_of_isAction hp] at h
  split at h
  next hq =>
    cases h
    simp only [phaseFits, hq] at hf
    exact ⟨phaseFits_recvBlock (k := 0) rfl hf rfl (Nat.zero_le _), ha⟩
  next k p hq =>
    split at h <;> cases h
    next r hr =>
      simp only [phaseFits, hq, Bool.and_eq_true, decide_eq_true_eq, beq_iff_eq] at hf
      obtain ⟨⟨⟨hclear, hk⟩, hx⟩, -⟩ := hf
      obtain ⟨hframe, -⟩ := recvStep_frame hr
      have hclear' := hframe.recordClear hclear
      have hcount' := hframe.count
      refine ⟨?_, ((recvStep_action hr).trans (receiveNext_action k r)).attemptsFit ?_ ha⟩
      · cases recvStep_outcome hr with
        | @goOn u q hq' hx' =>
          have hu : u.count = s.count := hcount'
          simp [phaseFits, receiveNext, hclear', hu, hk, hx', hx, hq']
        | @good u hx' =>
          have hu : u.xfer.toNat = k + 1 := by rw [hx', toNat_xfer_add_one (hx ▸ hk), hx]
          exact phaseFits_recvBlock (k := k + 1) rfl hclear' hu (by rw [← hcount'] at hk; exact hk)
        | @failed u f hf' hx' =>
          have hu : u.count = s.count := hcount'
          simp [phaseFits, receiveNext, hclear', hu, hk, hx', hx, hf']
      · obtain ⟨u, q | _ | f⟩ := r <;> exact hframe.attempts
  next f hq =>
    cases h
    simp only [phaseFits, hq, Bool.and_eq_true, decide_eq_true_eq, List.contains_iff_mem] at hf
    obtain ⟨⟨hclear, hmem⟩, hx⟩ := hf
    obtain ⟨-, hn, hs⟩ := recordClear_iff.mp hclear
    exact ⟨by simp [phaseFits, cmdFits, hmem, hx, hn, hs], ha⟩
  next f p hq =>
    cases h
    simp only [phaseFits, hq, Bool.and_eq_true, decide_eq_true_eq, beq_iff_eq, List.contains_iff_mem,
      Bool.not_eq_true'] at hf
    obtain ⟨⟨⟨⟨⟨hfit, hmem⟩, hx⟩, hr⟩, hn⟩, hs⟩ := hf
    have hk := cmdStep_keeps (arg := 0#32) hfit ha
    have hframe := cmdStep_frame 12#6 0#32 .r1b p s
    unfold autoStopStep
    generalize cmdStep 12#6 0#32 .r1b p s = r at hk hframe
    obtain ⟨u, q | cls⟩ := r
    · have hfit' : cmdFits .r1b 12#6 q u = true := hk.goOn q rfl
      refine ⟨?_, hk.attempts⟩
      have hframe : CmdFrame s u := hframe
      simp [phaseFits, autoStopNext, hfit', hmem, hframe.xfer, hframe.count, hx, hframe.retryable, hr,
        hframe.needsCheck, hn, hframe.stopped, hs]
    · refine ⟨phaseFits_autoStopNext_done hmem (by rw [hframe.xfer, hframe.count]; exact hx)
        (hframe.retryable.trans hr) (hframe.needsCheck.trans hn), ?_⟩
      have hua : u.attemptsFit := hk.attempts
      simp only [autoStopNext]
      split <;> exact hua
  next => cases h

theorem execRecvShort_keeps {len : BitVec 10} {s t : State} (hp : s.phase.IsAction)
    (hf : phaseFits (.recvShort len) s = true) (ha : s.attemptsFit) (h : execRecvShort len s = .next t) :
    RunKeeps (.recvShort len) t := by
  rw [execRecvShort, runPhase_of_isAction hp] at h
  split at h
  next hq =>
    cases h
    simp only [phaseFits, hq] at hf
    exact ⟨by simp [phaseFits, recvFits, hf], ha⟩
  next k p hq =>
    split at h <;> cases h
    next r hr =>
      simp only [phaseFits, hq, Bool.and_eq_true, beq_iff_eq] at hf
      obtain ⟨⟨⟨hclear, hk⟩, hx⟩, -⟩ := hf
      obtain ⟨hframe, -⟩ := recvStep_frame hr
      have hclear' := hframe.recordClear hclear
      obtain ⟨h1, h2, h3⟩ := recordClear_iff.mp hclear'
      refine ⟨?_, ((recvStep_action hr).trans (recvShortNext_action k r)).attemptsFit ?_ ha⟩
      · cases recvStep_outcome hr with
        | goOn hq' hx' => simp [phaseFits, recvShortNext, hclear', hk, hx', hx, hq']
        | good hx' =>
          exact phaseFits_of_end rfl (List.mem_cons_self ..) h1 h3 h2 (by simp [xferAt, recvShortNext, hx', hx])
        | failed hf' hx' => simp [phaseFits, recvShortNext, hclear', hf', hx', hx]
      · obtain ⟨u, q | _ | f⟩ := r <;> exact hframe.attempts
  next f hq =>
    cases h
    simp only [phaseFits, hq, Bool.and_eq_true, beq_iff_eq, List.contains_iff_mem] at hf
    obtain ⟨⟨hclear, hmem⟩, hx⟩ := hf
    obtain ⟨-, hn, hs⟩ := recordClear_iff.mp hclear
    obtain ⟨herr, hpair, hdata, -⟩ := readFailure_completes f hmem
    exact ⟨phaseFits_of_end rfl hdata hpair hs hn (by simp [xferAt, hx, herr]), ha⟩
  next => cases h

/-! ## TransmitBody (42_data_transfer.md R97 to R102) -/

theorem phaseFits_write {i : Instr} {multi final : Bool} (hi : writeOf i = some (multi, final)) {s : State}
    (hp : ∀ e c, s.phase ≠ .finish e c) : phaseFits i s = transmitFits multi final s := by
  unfold phaseFits
  split
  next e c h => exact absurd h (hp e c)
  next => cases i <;> simp [writeOf] at hi <;> obtain ⟨rfl, rfl⟩ := hi <;> rfl

theorem cases_of_writeOf {i : Instr} {multi final : Bool} (h : writeOf i = some (multi, final)) :
    (i = .transmit ∧ multi = false ∧ final = false) ∨ (i = .transmitM ∧ multi = true ∧ final = false) ∨
      (i = .transmitMF ∧ multi = true ∧ final = true) := by
  cases i <;> simp_all [writeOf]

theorem xferAt_write {i : Instr} {multi final : Bool} (hi : writeOf i = some (multi, final)) {e : ErrCode} {s : State}
    (he : e ≠ .noError) (hx : s.xfer.toNat ≤ s.count.toNat) : xferAt i e s = true := by
  obtain ⟨rfl, -⟩ | ⟨rfl, -⟩ | ⟨rfl, -⟩ := cases_of_writeOf hi <;> simp [xferAt, he, hx]

/-- A rejected block's failure is a row of R114 for every write, with its marks, and, with a failed stop, one of the
multiple-block writes'. -/
theorem writeFailure_completes : ∀ f ∈ writeFailures,
    f.err = .write ∧ f.retryable = retryablePair .write f.cls ∧ (.write, f.cls) ∈ writeCompletions ∧
      f.cls ≠ .timeout ∧ (.onDrive, f.cls) ∈ completions .transmitM ∧ (.onDrive, f.cls) ∈ completions .transmitMF := by
  decide

/-- A busy timeout ends a write with no stop sequence (42_data_transfer.md R99). -/
theorem phaseFits_writeTimeout {i : Instr} {multi final : Bool} (hi : writeOf i = some (multi, final)) {t : State}
    (hp : t.phase = .finish .onDrive .timeout) (hc : recordClear t = true) (hx : t.xfer.toNat ≤ t.count.toNat) :
    phaseFits i t = true := by
  obtain ⟨hr, hn, hs⟩ := recordClear_iff.mp hc
  have hxfer := xferAt_write hi (e := .onDrive) nofun hx
  obtain ⟨rfl, -⟩ | ⟨rfl, -⟩ | ⟨rfl, -⟩ := cases_of_writeOf hi
  · exact phaseFits_of_end hp (by decide) hr hs hn hxfer
  · exact phaseFits_of_end hp (by decide) hr hs hn hxfer
  · exact phaseFits_of_end hp (by decide) hr hs hn hxfer

/-- A rejected block ends a write with its failure, after the stop sequence if there is one (42_data_transfer.md R99). -/
theorem phaseFits_writeRejected {i : Instr} {multi final : Bool} (hi : writeOf i = some (multi, final)) {t : State}
    {f : Failure} (hp : t.phase = .finish f.err f.cls) (hf : f ∈ writeFailures)
    (hr : t.status.retryable = f.retryable) (hn : t.status.needsCheck = true) (hs : t.status.stopped = multi)
    (hx : t.xfer.toNat ≤ t.count.toNat) : phaseFits i t = true := by
  obtain ⟨herr, hpair, hmem, -⟩ := writeFailure_completes f hf
  rw [herr] at hp
  have hxfer := xferAt_write hi (e := .write) nofun hx
  obtain ⟨rfl, rfl, -⟩ | ⟨rfl, rfl, -⟩ | ⟨rfl, rfl, -⟩ := cases_of_writeOf hi
  · exact phaseFits_of_end hp hmem (hr.trans hpair) hs hn hxfer
  · exact phaseFits_of_end hp (List.mem_append_left _ hmem) (hr.trans hpair) hs hn hxfer
  · exact phaseFits_of_end hp (List.mem_append_left _ hmem) (hr.trans hpair) hs hn hxfer

/-- A rejected block whose stop sequence timed out ends the write ON_DRIVE (42_data_transfer.md R99). -/
theorem phaseFits_writeStopFailed {i : Instr} {final : Bool} (hi : writeOf i = some (true, final)) {t : State}
    {f : Failure} (hp : t.phase = .finish .onDrive f.cls) (hf : f ∈ writeFailures) (hr : t.status.retryable = false)
    (hn : t.status.needsCheck = true) (hs : t.status.stopped = false) (hx : t.xfer.toNat ≤ t.count.toNat) :
    phaseFits i t = true := by
  obtain ⟨-, -, -, htimeout, hM, hMF⟩ := writeFailure_completes f hf
  have hr' := hr.trans (retryablePair_onDrive f.cls).symm
  have hxfer := xferAt_write hi (e := .onDrive) nofun hx
  obtain ⟨-, hmulti, -⟩ | ⟨rfl, -⟩ | ⟨rfl, -⟩ := cases_of_writeOf hi
  · cases hmulti
  · exact phaseFits_of_end hp hM hr' hs (by simp [needsCheckAt, hn, htimeout]) hxfer
  · exact phaseFits_of_end hp hMF hr' hs (by simp [needsCheckAt, hn, htimeout]) hxfer

/-- A write of all its blocks ends OK with the marks of its operation (42_data_transfer.md R99 to R102). -/
theorem phaseFits_written {i : Instr} {multi final : Bool} (hi : writeOf i = some (multi, final)) {t : State}
    (hp : t.phase = finishOk) (hr : t.status.retryable = false) (hs : t.status.stopped = (multi && final))
    (hn : t.status.needsCheck = ((multi && final) || (!multi && decide (t.count = 1#16)))) (hx : t.xfer = t.count) :
    phaseFits i t = true := by
  obtain ⟨rfl, rfl, rfl⟩ | ⟨rfl, rfl, rfl⟩ | ⟨rfl, rfl, rfl⟩ := cases_of_writeOf hi
  · exact phaseFits_of_end hp (by decide) hr hs (by simp [needsCheckAt, hn]) (by simp [xferAt, hx])
  · exact phaseFits_of_end hp (by decide) hr hs (by simp [needsCheckAt, hn]) (by simp [xferAt, hx])
  · exact phaseFits_of_end hp (by decide) hr hs (by simp [needsCheckAt, hn]) (by simp [xferAt, hx])

/-- The next block of a write, or what follows the last (42_data_transfer.md R99). -/
theorem phaseFits_sendBlock {i : Instr} {multi final : Bool} (hi : writeOf i = some (multi, final)) {t : State}
    {k : Nat} (hp : t.phase = sendBlock multi final t.count k) (hc : recordClear t = true) (hx : t.xfer.toNat = k)
    (hk : k ≤ t.count.toNat) : phaseFits i t = true := by
  obtain ⟨hr, hn, hs⟩ := recordClear_iff.mp hc
  unfold sendBlock at hp
  split at hp
  next hlt =>
    rw [phaseFits_write hi (by simp [hp])]
    simp [transmitFits, hp, hc, hlt, hx, sendFits]
  next =>
    have hxc : t.xfer = t.count := BitVec.eq_of_toNat_eq (by omega)
    unfold afterBlocks at hp
    split at hp
    next hmf =>
      rw [phaseFits_write hi (by simp [hp])]
      simp only [Bool.and_eq_true] at hmf
      simp [transmitFits, hp, hc, hmf, hxc]
    next hmf =>
      split at hp
      next h1 =>
        rw [phaseFits_write hi (by simp [hp])]
        simp only [Bool.and_eq_true, Bool.not_eq_true', decide_eq_true_eq] at h1
        simp [transmitFits, hp, hr, hn, hs, hxc, h1]
      next h1 => exact phaseFits_written hi hp hr (by rw [hs]; simp_all) (by rw [hn]; simp_all) hxc

/-- Where an action of a written block goes on to, and the two marks of the record it sets. -/
inductive SendOutcome (multi final : Bool) (k : Nat) (s t : State) : Prop where
  | goOn (q : SendPos) (hq : sendFits q = true) (hp : t.phase = .send k q) (hx : t.xfer = s.xfer)
    (hc : recordClear s = true → recordClear t = true)
  | timedOut (hp : t.phase = .finish .onDrive .timeout) (hx : t.xfer = s.xfer)
    (hc : recordClear s = true → recordClear t = true)
  | accepted (hp : t.phase = sendBlock multi final s.count (k + 1)) (hx : t.xfer = s.xfer + 1#16)
    (hc : recordClear s = true → recordClear t = true)
  | rejected (f : Failure) (hf : f ∈ writeFailures)
    (hp : t.phase = if multi then .stop (some f) (.ready .first) else .finish f.err f.cls) (hx : t.xfer = s.xfer)
    (hr : t.status.retryable = f.retryable) (hn : t.status.needsCheck = true)

theorem dataResponse_mem {dr : Byte} {f : Failure} (h : dataResponse dr = some f) : f ∈ writeFailures := by
  unfold dataResponse at h
  repeat' split at h
  all_goals cases h
  all_goals decide

theorem recordClear_of_status {s t : State} (h : t.status = s.status) (hc : recordClear s = true) :
    recordClear t = true := by
  simpa [recordClear, h] using hc

theorem sendStep_outcome {multi final : Bool} {k : Nat} {p : SendPos} {s t : State}
    (h : sendStep multi final k p s = some t) : SendOutcome multi final k s t := by
  cases p with
  | ready w =>
    cases h
    unfold sendReady
    dsimp only
    split
    · exact .goOn .token rfl rfl (s.latch_xfer w) (recordClear_of_status (s.latch_status w))
    · exact .timedOut rfl (s.latch_xfer w) (recordClear_of_status (s.latch_status w))
    · exact .goOn (.ready .again) rfl rfl (s.latch_xfer w) (recordClear_of_status (s.latch_status w))
  | data j =>
    simp only [sendStep] at h
    split at h <;> cases h
    by_cases hj : j + 1 < Config.blockLen
    · exact .goOn (.data (j + 1)) (by simpa [sendFits] using hj) (by simp [hj]) rfl id
    · exact .goOn .crcHi rfl (by simp [hj]) rfl id
  | token =>
    cases h
    exact .goOn (.data 0) rfl rfl rfl id
  | crcHi =>
    cases h
    exact .goOn .crcLo rfl rfl rfl id
  | crcLo =>
    cases h
    exact .goOn .response rfl rfl rfl id
  | response =>
    cases h
    unfold sendResponse
    dsimp only
    split
    next => exact .accepted rfl rfl (recordClear_of_status rfl)
    next f hf => exact .rejected f (dataResponse_mem hf) rfl rfl rfl rfl

/-- Where an action of StopSeq goes on to; STOPPED is set exactly by its end (42_data_transfer.md R98). -/
inductive StopOutcome (s : State) : State × StopNext → Prop where
  | goOn {t : State} {q : StopPos} (hs : t.status.stopped = s.status.stopped) : StopOutcome s (t, .goOn q)
  | stopped {t : State} (hs : t.status.stopped = true) : StopOutcome s (t, .stopped)
  | timedOut {t : State} (hs : t.status.stopped = s.status.stopped) : StopOutcome s (t, .timedOut)

theorem stopStep_outcome (p : StopPos) (s : State) : StopOutcome s (stopStep p s) := by
  cases p with
  | ready w =>
    unfold stopStep
    dsimp only
    split
    · exact .goOn (by simp)
    · exact .timedOut (by simp)
    · exact .goOn (by simp)
  | token => exact .goOn rfl
  | stuff => exact .stopped rfl

theorem stopNext_keeps {i : Instr} {multi final : Bool} (hi : writeOf i = some (multi, final)) {s : State}
    {f : Option Failure} {r : State × StopNext} {p : StopPos} (hp : s.phase = .stop f p)
    (hf : phaseFits i s = true) (ho : StopOutcome s r) (hframe : StopFrame s r.1) :
    phaseFits i (stopNext f r) = true := by
  rw [phaseFits_write hi (by simp [hp])] at hf
  cases f with
  | some f =>
    simp only [transmitFits, hp, Bool.and_eq_true, decide_eq_true_eq, beq_iff_eq, List.contains_iff_mem,
      Bool.not_eq_true'] at hf
    obtain ⟨⟨⟨⟨⟨rfl, hmem⟩, hx⟩, hr⟩, hn⟩, hs⟩ := hf
    rw [← hframe.xfer, ← hframe.count] at hx
    rw [← hframe.retryable] at hr
    rw [← hframe.needsCheck] at hn
    cases ho with
    | @goOn t q ho =>
      rw [phaseFits_write hi (by simp [stopNext])]
      simp_all [transmitFits, stopNext]
    | stopped ho => exact phaseFits_writeRejected hi rfl hmem hr hn ho hx.le
    | timedOut ho =>
      rw [phaseFits_write hi (by simp [stopNext])]
      simp_all [transmitFits, stopNext]
  | none =>
    simp only [transmitFits, hp, Bool.and_eq_true, beq_iff_eq] at hf
    obtain ⟨⟨⟨rfl, rfl⟩, hclear⟩, hx⟩ := hf
    rw [← hframe.xfer, ← hframe.count] at hx
    obtain ⟨hr, hn, hs⟩ := recordClear_iff.mp hclear
    rw [← hframe.retryable] at hr
    rw [← hframe.needsCheck] at hn
    cases ho with
    | @goOn t q ho =>
      rw [phaseFits_write hi (by simp [stopNext])]
      simp_all [transmitFits, stopNext, recordClear]
    | stopped ho =>
      rw [phaseFits_write hi (by simp [stopNext])]
      simp_all [transmitFits, stopNext]
    | @timedOut t ho =>
      exact phaseFits_writeTimeout hi rfl (recordClear_iff.mpr ⟨hr, hn, ho.trans hs⟩) (congrArg BitVec.toNat hx).le

theorem sendOutcome_keeps {i : Instr} {multi final : Bool} (hi : writeOf i = some (multi, final)) {s t : State}
    {k : Nat} {p : SendPos} (hp : s.phase = .send k p) (hf : phaseFits i s = true)
    (ho : SendOutcome multi final k s t) (hframe : SendFrame s t) : phaseFits i t = true := by
  rw [phaseFits_write hi (by simp [hp])] at hf
  simp only [transmitFits, hp, Bool.and_eq_true, decide_eq_true_eq, beq_iff_eq] at hf
  obtain ⟨⟨⟨hclear, hk⟩, hx⟩, -⟩ := hf
  obtain ⟨-, -, hs⟩ := recordClear_iff.mp hclear
  rw [← hframe.count] at hk
  cases ho with
  | goOn q hq hp hx' hc =>
    rw [phaseFits_write hi (by simp [hp])]
    simp [transmitFits, hp, hc hclear, hk, hx', hx, hq]
  | timedOut hp hx' hc => exact phaseFits_writeTimeout hi hp (hc hclear) (by rw [hx', hx]; exact hk.le)
  | accepted hp hx' hc =>
    have hxt : t.xfer.toNat = k + 1 := by rw [hx', toNat_xfer_add_one (hframe.count ▸ hx ▸ hk), hx]
    exact phaseFits_sendBlock hi (hframe.count ▸ hp) (hc hclear) hxt hk
  | rejected f hmem hp hx' hr hn =>
    have hlt : t.xfer.toNat < t.count.toNat := by rw [hx', hx]; exact hk
    cases multi with
    | false => exact phaseFits_writeRejected hi hp hmem hr hn (hframe.stopped.trans hs) hlt.le
    | true =>
      rw [phaseFits_write hi (by simp [hp])]
      simp [transmitFits, hp, hmem, hlt, hr, hn, hframe.stopped, hs]

theorem transmitBody_fits {i : Instr} {legal multi final : Bool} (hi : writeOf i = some (multi, final)) {s t : State}
    (hp : s.phase.IsAction) (hf : phaseFits i s = true) (h : transmitBody legal multi final s = .next t) :
    phaseFits i t = true := by
  rw [transmitBody, runPhase_of_isAction hp] at h
  split at h
  next hq =>
    cases h
    rw [phaseFits_write hi hp.ne_finish, transmitFits, hq] at hf
    exact phaseFits_sendBlock (k := 0) hi rfl hf rfl (Nat.zero_le _)
  next k p hq =>
    split at h <;> cases h
    next hr => exact sendOutcome_keeps hi hq hf (sendStep_outcome hr) (sendStep_frame hr)
  next f p hq =>
    cases h
    exact stopNext_keeps hi hq hf (stopStep_outcome p s) (stopStep_frame p s)
  next f hq =>
    cases h
    rw [phaseFits_write hi hp.ne_finish] at hf
    simp only [transmitFits, hq, Bool.and_eq_true, decide_eq_true_eq, List.contains_iff_mem,
      Bool.not_eq_true'] at hf
    obtain ⟨⟨⟨⟨rfl, hmem⟩, hx⟩, hn⟩, hs⟩ := hf
    exact phaseFits_writeStopFailed hi rfl hmem rfl hn hs hx.le
  next hq =>
    cases h
    rw [phaseFits_write hi hp.ne_finish] at hf
    simp only [transmitFits, hq, Bool.and_eq_true, beq_iff_eq, Bool.not_eq_true'] at hf
    obtain ⟨⟨⟨hx, hr⟩, -⟩, hend⟩ := hf
    cases multi with
    | false =>
      obtain ⟨h1, hs⟩ : s.count = 1#16 ∧ s.status.stopped = false := by simpa using hend
      exact phaseFits_written hi rfl hr hs (by simp [h1]) hx
    | true =>
      obtain ⟨rfl, hs⟩ : final = true ∧ s.status.stopped = true := by simpa using hend
      exact phaseFits_written hi rfl hr hs rfl hx
  next => cases h

/-- No action of a write touches ATTEMPTS (42_data_transfer.md R99). -/
theorem transmitBody_attempts {legal multi final : Bool} {s t : State} (hp : s.phase.IsAction)
    (h : transmitBody legal multi final s = .next t) : t.status.attempts = s.status.attempts := by
  rw [transmitBody, runPhase_of_isAction hp] at h
  split at h
  next => cases h; rfl
  next =>
    split at h <;> cases h
    next hr => exact (sendStep_frame hr).attempts
  next f p _ =>
    cases h
    have hstop := (stopStep_frame p s).attempts
    generalize stopStep p s = r at hstop
    obtain ⟨u, q | _ | _⟩ := r
    · exact hstop
    all_goals cases f <;> exact hstop
  next => cases h; rfl
  next => cases h; rfl
  next => cases h

/-! ## Every operation, and the agents' turns -/

/-- An action of any operation leads from one of its positions to one of its positions. -/
theorem exec_keeps {i : Instr} {s t : State} (hp : s.phase.IsAction) (hf : phaseFits i s = true)
    (ha : s.attemptsFit) (h : exec i s = .next t) : RunKeeps i t := by
  have hwrite : ∀ multi final, writeOf i = some (multi, final) → RunKeeps i t := by
    intro multi final hi
    have hframe := exec_action hp h
    rw [exec_of_writeOf hi] at h
    exact ⟨transmitBody_fits hi hp hf h, hframe.attemptsFit (transmitBody_attempts hp h) ha⟩
  have hcommand : ∀ kind idx, commandOf i = some (kind, idx) → RunKeeps i t := by
    intro kind idx hi
    rw [exec_of_commandOf hi] at h
    exact sendCmdBody_keeps hi hp hf ha h
  cases i with
  | sendCmdNone | sendCmdR1 | sendCmdR1B | sendCmdR2 | sendCmdR3 | sendCmdR7 => exact hcommand _ _ rfl
  | receive => exact execReceive_keeps hp hf ha h
  | recvShort len => exact execRecvShort_keeps hp hf ha h
  | transmit | transmitM | transmitMF => exact hwrite _ _ rfl
  | crcClear | crc7Feed | crc16Feed | waitReady | select | deselect | resync | idle =>
    exact exec_control_keeps rfl rfl rfl hp hf ha h

/-- `Finish` at a completion of R114, or at the decode of an illegal word, leaves the record of an idle engine. -/
theorem State.inv_finish {s : State} {e : ErrCode} {c : CompletionClass} (hm : s.mem.wf = true)
    (hpair : e = .noError ↔ c = .ok) (hr : s.status.retryable = retryablePair e c) : (s.finish e c).inv = true :=
  (State.inv_of_idle rfl).mpr ⟨hm, rfl, hpair, hr⟩

theorem State.inv_finish_illegal {s : State} (hp : s.phase = .decode) (h : s.inv = true) :
    (s.finish .illegalOp .illegal).inv = true := by
  obtain ⟨hm, -, hclear, -⟩ := (State.inv_of_decode hp).mp h
  exact State.inv_finish hm (by simp) (recordClear_iff.mp hclear).1

theorem exec_inv {i : Instr} {s t : State} (hi : decode s.op = .ok i) (h : s.inv = true) (he : exec i s = .next t) :
    t.inv = true := by
  obtain ⟨-, rfl⟩ | ⟨hp, rfl⟩ | ⟨e, c, hp, rfl⟩ | ⟨hp, hframe⟩ := exec_cases he
  · exact h
  · cases hl : legalOp i s.count with
    | false => exact State.inv_finish_illegal hp h
    | true =>
      obtain ⟨hm, ⟨hb, hd, he, hc, ha⟩, hclear, -⟩ := (State.inv_of_decode hp).mp h
      have hfit := phaseFits_firstAction hl hclear
      obtain ⟨h1, h2⟩ := phaseFits_ne hfit
      exact (State.inv_of_running h1 h2).mpr ⟨hm, ⟨hb, hd, he, hc, ha⟩, i, hi, hl, hfit⟩
  · obtain ⟨hm, -, j, hj, -, hfit⟩ := (State.inv_of_running (by simp [hp]) (by simp [hp])).mp h
    rw [phaseFits_finish hp] at hfit
    obtain ⟨hcomp, hr, -⟩ := endFits_iff.mp hfit
    exact State.inv_finish hm (completions_pair hcomp) hr
  · obtain ⟨hm, hrec, j, hj, hl, hfit⟩ := (State.inv_of_running hp.ne_idle hp.ne_decode).mp h
    obtain rfl : j = i := by rw [hi] at hj; exact (Except.ok.inj hj).symm
    have hk := exec_keeps hp hfit hrec.attempts he
    obtain ⟨h1, h2⟩ := phaseFits_ne hk.fits
    have hrec' : BusyRecord t :=
      ⟨hframe.busy.trans hrec.busy, hframe.done.trans hrec.done, hframe.err.trans hrec.err,
        hframe.cls.trans hrec.cls, hk.attempts⟩
    exact (State.inv_of_running h1 h2).mpr
      ⟨hframe.mem_wf hm, hrec', j, hframe.op ▸ hi, hframe.count ▸ hl, hk.fits⟩

theorem engineTurn_inv {s t : State} (h : s.inv = true) (he : engineTurn s = .next t) : t.inv = true := by
  obtain rfl | ⟨-, i, hi, he⟩ | ⟨hp, rfl⟩ := engineTurn_cases he
  · exact h
  · exact exec_inv hi h he
  · exact State.inv_finish_illegal hp h

/-- The start of a wait's exchange moves no position the invariant sees. -/
theorem State.inv_startExchange {s : State} (h : s.inv = true) : s.startExchange.inv = true := by
  by_cases hp : s.phase.started = s.phase
  · rwa [State.startExchange_of_started hp]
  · rw [State.startExchange_of_first hp]
    have h1 : s.phase ≠ .idle := fun hi => hp (by rw [hi]; rfl)
    have h2 : s.phase ≠ .decode := fun hd => hp (by rw [hd]; rfl)
    obtain ⟨hm, ⟨hb, hd, he, hc, ha⟩, i, hi, hl, hfit⟩ := (State.inv_of_running h1 h2).mp h
    have hfit' := (phaseFits_started i s s.ticks).trans hfit
    obtain ⟨h3, h4⟩ := phaseFits_ne hfit'
    exact (State.inv_of_running h3 h4).mpr ⟨hm, ⟨hb, hd, he, hc, ha⟩, i, hi, hl, hfit'⟩

/-- DONE and REJ move freely, but that DONE stays 0 while an operation runs. -/
theorem State.inv_setDoneRej {s : State} {d r : Bool} (hd : d = true → s.status.done = true) (h : s.inv = true) :
    ({ s with status := { s.status with done := d, rej := r } } : State).inv = true := by
  by_cases h1 : s.phase = .idle
  · obtain ⟨hm, hb, hpair, hr⟩ := (State.inv_of_idle h1).mp h
    exact (State.inv_of_idle (by exact h1)).mpr ⟨hm, hb, hpair, hr⟩
  · have hdone : BusyRecord s → d = false := by
      intro hrec
      by_contra hne
      simp [hrec.done] at hd
      exact hne hd
    by_cases h2 : s.phase = .decode
    · obtain ⟨hm, hrec, hclear, hz⟩ := (State.inv_of_decode h2).mp h
      exact (State.inv_of_decode (by exact h2)).mpr ⟨hm, ⟨hrec.busy, hdone hrec, hrec.err, hrec.cls, hrec.attempts⟩, hclear, hz⟩
    · obtain ⟨hm, hrec, i, hi, hl, hfit⟩ := (State.inv_of_running h1 h2).mp h
      exact (State.inv_of_running (by exact h1) (by exact h2)).mpr
        ⟨hm, ⟨hrec.busy, hdone hrec, hrec.err, hrec.cls, hrec.attempts⟩, i, hi, hl, hfit⟩

theorem writeIdleSlot_inv {sl : Slot} {w : Word} {s : State} (hp : s.phase = .idle) (h : s.inv = true) :
    (writeIdleSlot sl w s).inv = true := by
  obtain ⟨hm, hrec⟩ := (State.inv_of_idle hp).mp h
  have hsame : ∀ t : State, t.phase = .idle → t.mem = s.mem → t.status = s.status → t.inv = true := by
    intro t hp' hm' hs'
    refine (State.inv_of_idle hp').mpr ⟨hm'.symm ▸ hm, ?_⟩
    exact ⟨hs'.symm ▸ hrec.busy, hs'.symm ▸ hrec.pair, hs'.symm ▸ hrec.retryable⟩
  cases sl with
  | op => exact (State.inv_of_decode rfl).mpr ⟨hm, ⟨rfl, rfl, rfl, rfl, Nat.zero_le _⟩, rfl, rfl⟩
  | _ => exact hsame _ hp rfl rfl

theorem writeSlot_inv {sl : Slot} {w : Word} {s : State} (h : s.inv = true) : (writeSlot sl w s).inv = true := by
  unfold writeSlot
  split
  · exact State.inv_setDoneRej (by simp +contextual) h
  · split
    next => exact State.inv_setDoneRej (d := s.status.done) id h
    next hb => exact writeIdleSlot_inv (State.phase_of_inv_of_not_busy h (by simpa using hb)) h

theorem State.inv_storeByte {s : State} {a : Word} {v : Byte} (h : s.inv = true) : (s.storeByte a v).inv = true := by
  have hm := State.storeByte_wf s a v (State.inv_mem_wf h)
  have hrest : ∀ m : Memory, m.wf = true → ({ s with mem := m } : State).inv = true := by
    intro m hm
    simp only [State.inv, Bool.and_eq_true] at h ⊢
    exact ⟨⟨hm, h.1.2⟩, h.2⟩
  exact hrest _ hm

theorem hostStep_inv {a : HostAction} {s t : State} (h : s.inv = true) (hs : hostStep a s = .next t) :
    t.inv = true := by
  obtain ⟨v, rfl⟩ | ⟨sl, w, rfl⟩ | ⟨b, v, rfl⟩ := hostStep_cases hs
  · exact h
  · exact writeSlot_inv h
  · exact State.inv_storeByte h

theorem takeTurn_inv {u : Turn} {s t : State} (h : s.inv = true) (ht : takeTurn u s = .next t) : t.inv = true := by
  cases u with
  | engine => exact engineTurn_inv h ht
  | exchangeStarts => cases ht; exact State.inv_startExchange h
  | tick => cases ht; exact h
  | host a => exact hostStep_inv h ht
  | reset =>
    cases ht
    have hm := State.inv_mem_wf h
    exact (State.inv_of_idle rfl).mpr ⟨hm, rfl, iff_of_true rfl rfl, rfl⟩

/-- Settles O51: `takeTurn_inv`, since the list of turns is no part of the invariant. -/
theorem everyStepKeepsTheInvariant : Obligations.EveryStepKeepsTheInvariant := by
  intro s t h hstep
  rw [step_eq_takeTurn] at hstep
  have hpop : ({ s with sched := s.sched.tail } : State).inv = true := h
  exact takeTurn_inv hpop hstep

end Sys2Proof.Machine
end

section
/-! PROOFS. The host's register accesses (10_state.md R10 to R12, R16 to R24), and the Engine's turn of the whole machine
(10_state.md R13, R26). -/

namespace Sys2Proof.Machine

/-! ## The host's turn -/

theorem step_host {s : State} {a : HostAction} {rest : List Turn} (h : s.sched = .host a :: rest) :
    step s = hostStep a { s with sched := rest } := by
  rw [step_eq_takeTurn, State.nextTurn_of_head (by rw [h]; rfl), h]
  rfl

theorem hostStep_regWrite {o w : Word} {sl : Slot} (h : slotAt o = some sl) (s : State) :
    hostStep (.regWrite .word o w) s = .next (writeSlot sl w s) := by
  simp [hostStep, hostRegWrite, accessedSlot, h]

theorem hostStep_regRead {o : Word} {sl : Slot} (h : slotAt o = some sl) (s : State) :
    hostStep (.regRead .word o) s = .next { s with readData := readSlot sl s } := by
  simp [hostStep, hostRegRead, accessedSlot, h]

/-- Every aligned offset of the window is a slot's, and only 0x04 is STATUS's (10_state.md R10). -/
theorem exists_slotAt {o : Word} (ha : o.toNat % 4 = 0) (hle : o.toNat ≤ 0x3C) :
    ∃ sl, slotAt o = some sl ∧ (sl = .status → o = 0x04#32) := by
  have hall : ∀ k < 16, (slotAt (BitVec.ofNat 32 (4 * k))).isSome ∧
      (slotAt (BitVec.ofNat 32 (4 * k)) = some .status → k = 1) := by decide
  obtain ⟨k, hk⟩ : ∃ k, o.toNat = 4 * k := ⟨o.toNat / 4, by omega⟩
  have ho : o = BitVec.ofNat 32 (4 * k) := by rw [← hk, BitVec.ofNat_toNat, BitVec.setWidth_eq]
  obtain ⟨hsome, hstatus⟩ := hall k (by omega)
  obtain ⟨sl, hsl⟩ := Option.isSome_iff_exists.mp hsome
  refine ⟨sl, ho ▸ hsl, fun he => ?_⟩
  have h1 : k = 1 := hstatus (by rw [hsl, he])
  rw [ho, h1]

/-! ## Host writes (10_state.md R23, R24) -/

theorem writeSlot_status (w : Word) (s : State) : writeSlot .status w s = s.writeStatus w := rfl

theorem writeSlot_of_busy {sl : Slot} {w : Word} {s : State} (hsl : sl ≠ .status) (hb : s.status.busy = true) :
    writeSlot sl w s = s.rejectWrite := by
  simp [writeSlot, hsl, hb]

theorem writeSlot_of_not_busy {sl : Slot} {w : Word} {s : State} (hsl : sl ≠ .status) (hb : s.status.busy = false) :
    writeSlot sl w s = writeIdleSlot sl w s := by
  simp [writeSlot, hsl, hb]

theorem Status.writeOneToClear_eq (st : Status) (w : Word) :
    st.writeOneToClear w =
      { st with
        done := if w.getLsbD 1 then false else st.done
        rej := if w.getLsbD 2 then false else st.rej } := by
  unfold Status.writeOneToClear
  cases w.getLsbD 1 <;> cases w.getLsbD 2 <;> simp

/-- The step of a host write that is not to STATUS, while no operation runs. -/
theorem step_regWrite_of_not_busy {s : State} {o w : Word} {rest : List Turn} {sl : Slot}
    (hs : s.sched = .host (.regWrite .word o w) :: rest) (hb : s.status.busy = false) (ho : slotAt o = some sl)
    (hsl : sl ≠ .status) : step s = .next (writeIdleSlot sl w { s with sched := rest }) := by
  rw [step_host hs, hostStep_regWrite ho]
  exact congrArg Host.Outcome.next (writeSlot_of_not_busy hsl hb)

/-- Settles O45: the slot of each offset, then R23's order in `writeSlot`. -/
theorem hostWriteFollowsItsRule : Obligations.HostWriteFollowsItsRule := by
  intro s o w rest hs
  refine ⟨?_, ?_, fun hb => ?_⟩
  · rintro rfl
    rw [step_host hs, hostStep_regWrite (sl := .status) rfl, writeSlot_status, State.writeStatus,
      Status.writeOneToClear_eq]
  · intro ha hle hne hb
    obtain ⟨sl, ho, hstatus⟩ := exists_slotAt ha hle
    rw [step_host hs, hostStep_regWrite ho]
    exact congrArg Host.Outcome.next (writeSlot_of_busy (mt hstatus hne) hb)
  · have hw := fun sl => step_regWrite_of_not_busy (sl := sl) hs hb
    refine ⟨?_, ?_, ?_, ?_, ?_, ?_, ?_, ?_⟩
    · rintro rfl; exact hw .op rfl nofun
    · rintro rfl; exact hw .ctrl rfl nofun
    · rintro rfl; exact hw .arg rfl nofun
    · rintro rfl; exact hw .addr rfl nofun
    · rintro rfl
      rw [hw .count rfl nofun, ← BitVec.setWidth_eq_extractLsb' (by decide)]
      rfl
    · rintro rfl; exact hw .toutRead rfl nofun
    · rintro rfl; exact hw .toutBusy rfl nofun
    · intro ho
      simp only [List.mem_cons, List.not_mem_nil, or_false] at ho
      obtain rfl | rfl | rfl | rfl | rfl | rfl | rfl | rfl := ho
      · exact hw .xfer rfl nofun
      · exact hw .resp rfl nofun
      · exact hw .respx rfl nofun
      · exact hw .dtoken rfl nofun
      · exact hw .crc7 rfl nofun
      · exact hw .crc16 rfl nofun
      · exact hw .crc16Rx rfl nofun
      · exact hw .reserved rfl nofun

/-! ## Host reads (10_state.md R22) -/

theorem step_regRead {s : State} {o : Word} {rest : List Turn} {sl : Slot}
    (hs : s.sched = .host (.regRead .word o) :: rest) (ho : slotAt o = some sl) :
    step s = .next { s with sched := rest, readData := readSlot sl s } := by
  rw [step_host hs, hostStep_regRead ho]
  rfl

/-- A register narrower than the bus reads with its reserved bits 0 (10_state.md R16 to R20). -/
theorem setWidth_eq_zero_append {n m : Nat} (x : BitVec m) : x.setWidth (n + m) = 0#n ++ x := by
  rw [BitVec.setWidth_eq_append (by omega)]
  simp

/-- CTRL's fields stand in their bits (10_state.md R11). -/
theorem ctrlWord_layout (c : Ctrl) :
    c.word &&& 0xFFFFFF0E#32 = 0#32 ∧ c.word.getLsbD 0 = c.ie ∧ c.word.extractLsb' 4 4 = c.cmdRetry := by
  obtain ⟨ie, retry⟩ := c
  revert ie retry
  decide

/-- STATUS's fields stand in their bits (10_state.md R12). -/
theorem statusWord_layout (st : Status) (cs : Bool) :
    statusWord st cs &&& 0xFF00C000#32 = 0#32 ∧ (statusWord st cs).getLsbD 0 = st.busy ∧
      (statusWord st cs).getLsbD 1 = st.done ∧ (statusWord st cs).getLsbD 2 = st.rej ∧
      (statusWord st cs).getLsbD 3 = cs ∧ (statusWord st cs).extractLsb' 4 4 = st.err.code ∧
      (statusWord st cs).extractLsb' 8 3 = st.cls.code ∧ (statusWord st cs).getLsbD 11 = st.retryable ∧
      (statusWord st cs).getLsbD 12 = st.needsCheck ∧ (statusWord st cs).getLsbD 13 = st.stopped ∧
      (statusWord st cs).extractLsb' 16 4 = st.derr ∧ (statusWord st cs).extractLsb' 20 4 = st.attempts := by
  refine ⟨?_, ?_, ?_, ?_, ?_, ?_, ?_, ?_, ?_, ?_, ?_, ?_⟩
  case refine_1 =>
    ext j hj
    simp only [statusWord, BitVec.getElem_and, BitVec.getElem_append]
    interval_cases j <;> simp
  case refine_6 | refine_7 | refine_11 | refine_12 =>
    ext j hj
    simp only [statusWord, BitVec.getElem_extractLsb', BitVec.getLsbD_append]
    interval_cases j <;> simp
  all_goals
    unfold statusWord
    repeat rw [BitVec.getLsbD_append]
    simp

/-- Settles O46: the slot of each offset, and where its fields stand. -/
theorem hostReadReturnsTheRegister : Obligations.HostReadReturnsTheRegister := by
  intro s o rest hs got
  have hgot : ∀ sl, slotAt o = some sl → got (readSlot sl s) := fun sl ho => step_regRead hs ho
  refine ⟨?_, ?_, ?_, ?_, ?_, ?_, ?_, ?_, ?_, ?_, ?_, ?_, ?_, ?_, ?_, ?_⟩
  · rintro rfl
    exact ⟨_, hgot .ctrl rfl, ctrlWord_layout s.ctrl⟩
  · rintro rfl
    exact ⟨_, hgot .status rfl, statusWord_layout s.status s.cs⟩
  · rintro rfl; exact hgot .op rfl
  · rintro rfl; exact hgot .arg rfl
  · rintro rfl; exact hgot .addr rfl
  · rintro rfl; exact setWidth_eq_zero_append s.count ▸ hgot .count rfl
  · rintro rfl; exact setWidth_eq_zero_append s.xfer ▸ hgot .xfer rfl
  · rintro rfl; exact setWidth_eq_zero_append s.resp ▸ hgot .resp rfl
  · rintro rfl; exact hgot .respx rfl
  · rintro rfl; exact setWidth_eq_zero_append s.dtoken ▸ hgot .dtoken rfl
  · rintro rfl; exact setWidth_eq_zero_append s.crc7 ▸ hgot .crc7 rfl
  · rintro rfl; exact setWidth_eq_zero_append s.crc16 ▸ hgot .crc16 rfl
  · rintro rfl; exact setWidth_eq_zero_append s.crc16Rx ▸ hgot .crc16Rx rfl
  · rintro rfl; exact hgot .toutRead rfl
  · rintro rfl; exact hgot .toutBusy rfl
  · rintro rfl; exact hgot .reserved rfl

/-! ## The Engine's turn of the whole machine -/

theorem step_engine {s : State} {rest : List Turn}
    (h : (s.sched = [] ∧ rest = []) ∨ s.sched = .engine :: rest) : step s = engineTurn { s with sched := rest } := by
  obtain ⟨h, rfl⟩ | h := h <;> rw [step_eq_takeTurn, State.nextTurn, h] <;> rfl

/-- An idle engine's turn is the idle step of whatever operation is in OP, so the decoded operation always decides. -/
theorem engineTurn_of_decode {s : State} {i : Instr} (h : decode s.op = .ok i) :
    engineTurn s = keepStuck s (exec i s) := by
  by_cases hp : s.phase = .idle
  · rw [engineTurn_of_idle hp, exec_idle i hp]
    rfl
  · unfold engineTurn
    split
    next hi => exact absurd hi hp
    next => rw [h]

theorem engineTurn_of_exec {s t : State} {i : Instr} (hi : decode s.op = .ok i) (h : exec i s = .next t) :
    engineTurn s = .next t := by
  rw [engineTurn_of_decode hi, h]
  rfl

/-- Settles O48: `engineTurn_of_decode` on the three answers of `exec`. -/
theorem stepRunsTheDecodedOperation : Obligations.StepRunsTheDecodedOperation := by
  intro s rest hs s₁
  have hstep : step s = engineTurn s₁ := step_engine hs
  refine ⟨fun hp => hstep.trans (engineTurn_of_idle hp), fun i hi => ?_⟩
  have hturn : step s = keepStuck s₁ (exec i s₁) := hstep.trans (engineTurn_of_decode hi)
  exact ⟨fun t h => by rw [hturn, h]; rfl, fun h => by rw [hturn, h]; rfl, fun r h => by rw [hturn, h]; rfl⟩

/-- One step of a run of an operation is one step of the machine with no other turn listed. -/
theorem step_of_exec {i : Instr} {s t : State} (hs : s.sched = []) (hi : decode s.op = .ok i)
    (h : exec i s = .next t) : step s = .next t := by
  have hpop : ({ s with sched := [] } : State) = s := by rw [← hs]
  rw [step_engine (.inl ⟨hs, rfl⟩), hpop, engineTurn_of_exec hi h]

/-- Settles O49, by induction on the number of steps: no operation writes OP or the list of turns. -/
theorem machineRunIsExecRun : Obligations.MachineRunIsExecRun := by
  intro i k
  induction k with
  | zero => exact fun s t _ _ h => h
  | succ k ih =>
    intro s t hs hi h
    unfold execRun at h
    split at h
    next s' he =>
      have hframe := exec_sameHostSide he
      rw [machineRun, step_of_exec hs hi he]
      exact ih s' t (hframe.sched.trans hs) (by rw [hframe.op, hi]) h
    all_goals cases h

end Sys2Proof.Machine
end

section
/-! PROOFS. The timebase and the waits (10_state.md R27, R28; 70_reset_and_hazards.md R122, R131): a tick only counts, only
waits read the count, a wait may end after one exchange, and every wait ends. -/

namespace Sys2Proof.Machine

/-! ## An action that is no wait does not read `ticks` -/

theorem State.tick_answer (s : State) : s.tick.answer = s.answer := rfl

theorem State.tick_backed (s : State) (j : Nat) :
    s.tick.backed (dataAddr s.tick j) = s.backed (dataAddr s j) := rfl

/-- A tick on the state of an action's answer. -/
def tickCmd (r : State × CmdNext) : State × CmdNext := (r.1.tick, r.2)

theorem attemptEnd_tick (cls : CompletionClass) (retryable : Bool) (s : State) :
    attemptEnd cls retryable s.tick = tickCmd (attemptEnd cls retryable s) := by
  unfold attemptEnd
  rw [State.tick_attempt, State.tick_ctrl]
  split <;> rfl

theorem r1Found_tick (idx : BitVec 6) (kind : RKind) (rx : Byte) (s : State) :
    r1Found idx kind rx s.tick = tickCmd (r1Found idx kind rx s) := by
  cases kind with
  | r1b | r2 | r3 | r7 => rfl
  | r1 | noResp => exact attemptEnd_tick _ _ { s with resp := maskR1 idx rx }

theorem frameStep_tick (idx : BitVec 6) (arg : Word) (kind : RKind) (k : Nat) (s : State) :
    frameStep idx arg kind k s.tick = tickCmd (frameStep idx arg kind k s) := by
  unfold frameStep sendFrameEnd
  split
  · rfl
  · split <;> rfl

theorem pollStep_tick (idx : BitVec 6) (kind : RKind) (k : Nat) (s : State) :
    pollStep idx kind k s.tick = tickCmd (pollStep idx kind k s) := by
  unfold pollStep
  dsimp only
  rw [State.tick_answer]
  split
  · exact r1Found_tick idx kind s.answer (s.exchange Config.idleByte)
  · split
    · rfl
    · exact attemptEnd_tick _ _ { s.exchange Config.idleByte with resp := s.answer }

theorem tailStep_tick (kind : RKind) (k : Nat) (cls : CompletionClass) (s : State) :
    tailStep kind k cls s.tick = tickCmd (tailStep kind k cls s) := by
  unfold tailStep
  dsimp only
  split
  · rfl
  · exact attemptEnd_tick _ _ { s.exchange Config.idleByte with respx := respxAfter kind s.respx s.answer }

theorem cmdStep_tick {idx : BitVec 6} {arg : Word} {kind : RKind} {p : CmdPos} (hp : ∀ w cls, p ≠ .busy w cls)
    (s : State) : cmdStep idx arg kind p s.tick = tickCmd (cmdStep idx arg kind p s) := by
  cases p with
  | start => exact frameStep_tick idx arg kind 0 { s with attempt := 0#4, status := { s.status with attempts := 0#4 } }
  | frame k => exact frameStep_tick ..
  | stuff => rfl
  | poll k => exact pollStep_tick ..
  | tail k cls => exact tailStep_tick ..
  | busy w cls => exact absurd rfl (hp w cls)
  | resync q => cases q <;> rfl

theorem recvCrcLo_tick (n : Nat) (s : State) :
    recvCrcLo n s.tick = ((recvCrcLo n s).1.tick, (recvCrcLo n s).2) := by
  by_cases h : s.crc16Rx ||| s.answer.setWidth 16 = s.crc16
  · have ht : s.tick.crc16Rx ||| s.tick.answer.setWidth 16 = s.tick.crc16 := h
    simp only [recvCrcLo, if_pos h, if_pos ht]
    rfl
  · have ht : ¬(s.tick.crc16Rx ||| s.tick.answer.setWidth 16 = s.tick.crc16) := h
    simp only [recvCrcLo, if_neg h, if_neg ht]
    rfl

theorem recvStep_tick {n : Nat} {p : RecvPos} (hp : ∀ w, p ≠ .token w) {s : State} {r : State × RecvNext}
    (h : recvStep n p s = some r) : recvStep n p s.tick = some (r.1.tick, r.2) := by
  cases p with
  | token w => exact absurd rfl (hp w)
  | data j =>
    simp only [recvStep] at h ⊢
    split at h <;> cases h
    next hb => exact if_pos (State.tick_backed s j ▸ hb)
  | crcHi =>
    cases h
    rfl
  | crcLo =>
    cases h
    exact congrArg some (recvCrcLo_tick n s)

theorem sendStep_tick {multi final : Bool} {k : Nat} {p : SendPos} (hp : ∀ w, p ≠ .ready w) {s t : State}
    (h : sendStep multi final k p s = some t) : sendStep multi final k p s.tick = some t.tick := by
  cases p with
  | ready w => exact absurd rfl (hp w)
  | data j =>
    simp only [sendStep] at h ⊢
    split at h <;> cases h
    next hb => exact if_pos (State.tick_backed s j ▸ hb)
  | response =>
    cases h
    unfold sendStep sendResponse
    simp only [State.tick_answer]
    split <;> rfl
  | token | crcHi | crcLo =>
    cases h
    rfl

theorem stopStep_tick {p : StopPos} (hp : ∀ w, p ≠ .ready w) (s : State) :
    stopStep p s.tick = ((stopStep p s).1.tick, (stopStep p s).2) := by
  cases p with
  | ready w => exact absurd rfl (hp w)
  | token | stuff => rfl

theorem sendCmdNext_tick (r : State × CmdNext) : sendCmdNext (tickCmd r) = (sendCmdNext r).tick := by
  obtain ⟨s, p | cls⟩ := r <;> rfl

theorem autoStopNext_tick (f : Failure) (r : State × CmdNext) :
    autoStopNext f (tickCmd r) = (autoStopNext f r).tick := by
  obtain ⟨s, p | cls⟩ := r
  · rfl
  · simp only [tickCmd, autoStopNext]
    split <;> rfl

theorem receiveNext_tick (k : Nat) (r : State × RecvNext) :
    receiveNext k (r.1.tick, r.2) = (receiveNext k r).tick := by
  obtain ⟨s, p | _ | f⟩ := r <;> rfl

theorem recvShortNext_tick (k : Nat) (r : State × RecvNext) :
    recvShortNext k (r.1.tick, r.2) = (recvShortNext k r).tick := by
  obtain ⟨s, p | _ | f⟩ := r <;> rfl

theorem stopNext_tick (f : Option Failure) (r : State × StopNext) :
    stopNext f (r.1.tick, r.2) = (stopNext f r).tick := by
  obtain ⟨s, p | _ | _⟩ := r
  · rfl
  all_goals cases f <;> rfl

/-- Idle, the decode step and `Finish` do not read `ticks`, so an operation's own positions decide. -/
theorem runPhase_tick {legal : Bool} {first : Phase} {body : State → StepResult} {s t : State}
    (hbody : body s = .next t → body s.tick = .next t.tick) (h : runPhase legal first body s = .next t) :
    runPhase legal first body s.tick = .next t.tick := by
  obtain ⟨hp, rfl⟩ | ⟨hp, rfl⟩ | ⟨e, c, hp, rfl⟩ | ⟨h1, h2, h3, hb⟩ := runPhase_cases h
  · exact runPhase_idle hp
  · rw [runPhase_decode (by exact hp)]
    cases legal <;> rfl
  · exact runPhase_finish hp
  · exact (runPhase_of_isAction (s := s.tick) ⟨h1, h2, h3⟩).trans (hbody hb)

theorem crcOp_tick {update : State → State} {s t : State} (hu : update s.tick = (update s).tick)
    (h : crcOp update s = .next t) : crcOp update s.tick = .next t.tick := by
  refine runPhase_tick (fun hb => ?_) h
  split at hb <;> cases hb
  next hq =>
    simp only [State.tick_phase, hq, hu]
    rfl

theorem execCrcClear_tick {c7 c16 : Bool} {s t : State} (h : execCrcClear c7 c16 s = .next t) :
    execCrcClear c7 c16 s.tick = .next t.tick :=
  crcOp_tick rfl h

theorem execCrc7Feed_tick {byte : Byte} {s t : State} (h : execCrc7Feed byte s = .next t) :
    execCrc7Feed byte s.tick = .next t.tick :=
  crcOp_tick rfl h

theorem execCrc16Feed_tick {byte : Byte} {s t : State} (h : execCrc16Feed byte s = .next t) :
    execCrc16Feed byte s.tick = .next t.tick :=
  crcOp_tick rfl h

theorem execWaitReady_tick {s t : State} (hw : waiting s.phase = false) (h : execWaitReady s = .next t) :
    execWaitReady s.tick = .next t.tick := by
  refine runPhase_tick (fun hb => ?_) h
  split at hb <;> cases hb
  next hq => simp [hq, waiting] at hw

theorem chipSelectOp_tick {v : Bool} {s t : State} (h : chipSelectOp v s = .next t) :
    chipSelectOp v s.tick = .next t.tick := by
  refine runPhase_tick (fun hb => ?_) h
  split at hb <;> cases hb
  next hq =>
    simp only [State.tick_phase, hq]
    rfl

theorem execResync_tick {s t : State} (h : execResync s = .next t) : execResync s.tick = .next t.tick := by
  refine runPhase_tick (fun hb => ?_) h
  split at hb <;> cases hb
  next p hq =>
    simp only [State.tick_phase, hq]
    cases p <;> rfl

theorem execIdle_tick {n : BitVec 11} {s t : State} (h : execIdle n s = .next t) :
    execIdle n s.tick = .next t.tick := by
  refine runPhase_tick (fun hb => ?_) h
  split at hb <;> cases hb
  next hq =>
    simp only [State.tick_phase, hq]
    rfl

theorem sendCmdBody_tick {kind : RKind} {idx : BitVec 6} {s t : State} (hw : waiting s.phase = false)
    (h : sendCmdBody kind idx s = .next t) : sendCmdBody kind idx s.tick = .next t.tick := by
  refine runPhase_tick (fun hb => ?_) h
  split at hb <;> cases hb
  next p hq =>
    have hp : ∀ w cls, p ≠ .busy w cls := by rintro w cls rfl; simp [hq, waiting] at hw
    simp only [State.tick_phase, State.tick_arg, hq]
    rw [cmdStep_tick hp, sendCmdNext_tick]

theorem execReceive_tick {s t : State} (hw : waiting s.phase = false) (h : execReceive s = .next t) :
    execReceive s.tick = .next t.tick := by
  refine runPhase_tick (fun hb => ?_) h
  split at hb
  next hq =>
    cases hb
    simp only [State.tick_phase, hq]
    rfl
  next k p hq =>
    have hp : ∀ w, p ≠ .token w := by rintro w rfl; simp [hq, waiting] at hw
    split at hb <;> cases hb
    next r hr =>
      simp only [State.tick_phase, hq]
      rw [recvStep_tick hp hr]
      exact congrArg Host.Outcome.next (receiveNext_tick k r)
  next hq =>
    cases hb
    simp only [State.tick_phase, hq]
    rfl
  next f p hq =>
    have hp : ∀ w cls, p ≠ .busy w cls := by rintro w cls rfl; simp [hq, waiting] at hw
    cases hb
    simp only [State.tick_phase, hq, autoStopStep]
    rw [cmdStep_tick hp, autoStopNext_tick]
  next => cases hb

theorem execRecvShort_tick {len : BitVec 10} {s t : State} (hw : waiting s.phase = false)
    (h : execRecvShort len s = .next t) : execRecvShort len s.tick = .next t.tick := by
  refine runPhase_tick (fun hb => ?_) h
  split at hb
  next hq =>
    cases hb
    simp only [State.tick_phase, hq]
    rfl
  next k p hq =>
    have hp : ∀ w, p ≠ .token w := by rintro w rfl; simp [hq, waiting] at hw
    split at hb <;> cases hb
    next r hr =>
      simp only [State.tick_phase, hq]
      rw [recvStep_tick hp hr]
      exact congrArg Host.Outcome.next (recvShortNext_tick k r)
  next hq =>
    cases hb
    simp only [State.tick_phase, hq]
    rfl
  next => cases hb

theorem transmitBody_tick {legal multi final : Bool} {s t : State} (hw : waiting s.phase = false)
    (h : transmitBody legal multi final s = .next t) : transmitBody legal multi final s.tick = .next t.tick := by
  refine runPhase_tick (fun hb => ?_) h
  split at hb
  next hq =>
    cases hb
    simp only [State.tick_phase, hq]
    rfl
  next k p hq =>
    have hp : ∀ w, p ≠ .ready w := by rintro w rfl; simp [hq, waiting] at hw
    split at hb <;> cases hb
    next hr =>
      simp only [State.tick_phase, hq]
      rw [sendStep_tick hp hr]
  next f p hq =>
    have hp : ∀ w, p ≠ .ready w := by rintro w rfl; simp [hq, waiting] at hw
    cases hb
    simp only [State.tick_phase, hq]
    rw [stopStep_tick hp, stopNext_tick]
  next hq =>
    cases hb
    simp only [State.tick_phase, hq]
    rfl
  next hq =>
    cases hb
    simp only [State.tick_phase, hq]
    rfl
  next => cases hb

/-- An operation that is not at a wait does not depend on `ticks` (10_state.md R28). -/
theorem exec_tick {i : Instr} {s t : State} (hw : waiting s.phase = false) (h : exec i s = .next t) :
    exec i s.tick = .next t.tick := by
  cases i with
  | crcClear c7 c16 => exact execCrcClear_tick h
  | crc7Feed byte => exact execCrc7Feed_tick h
  | crc16Feed byte => exact execCrc16Feed_tick h
  | sendCmdNone | sendCmdR1 | sendCmdR1B | sendCmdR2 | sendCmdR3 | sendCmdR7 => exact sendCmdBody_tick hw h
  | receive => exact execReceive_tick hw h
  | recvShort len => exact execRecvShort_tick hw h
  | transmit | transmitM | transmitMF => exact transmitBody_tick hw h
  | waitReady => exact execWaitReady_tick hw h
  | select | deselect => exact chipSelectOp_tick h
  | resync => exact execResync_tick h
  | idle n => exact execIdle_tick h

/-! ## The turns of the timebase and of a wait's first exchange -/

theorem step_tick {s : State} {rest : List Turn} (h : s.sched = .tick :: rest) :
    step s = .next { s with ticks := s.ticks + 1#32, sched := rest } := by
  rw [step_eq_takeTurn, State.nextTurn_of_head (by rw [h]; rfl), h]
  rfl

theorem step_exchangeStarts {s : State} {rest : List Turn} (h : s.sched = .exchangeStarts :: rest) :
    step s = .next ({ s with sched := rest } : State).startExchange := by
  rw [step_eq_takeTurn, State.nextTurn_of_head (by rw [h]; rfl), h]
  rfl

/-- The start of a wait's first exchange latches `t0` and moves the position, and nothing else (assumption log 20). -/
theorem step_exchangeStarts_of_first {s : State} {rest : List Turn} {p q : Phase}
    (h : s.sched = .exchangeStarts :: rest) (hp : s.phase = p) (hq : p.started = q) (hne : q ≠ p) :
    step s = .next { s with t0 := s.ticks, phase := q, sched := rest } := by
  subst hp hq
  rw [step_exchangeStarts h, State.startExchange_of_first (by exact hne)]

theorem step_exchangeStarts_of_not_waiting {s : State} {rest : List Turn} (h : s.sched = .exchangeStarts :: rest)
    (hw : waiting s.phase = false) : step s = .next { s with sched := rest } := by
  rw [step_exchangeStarts h]
  exact congrArg Host.Outcome.next (State.startExchange_of_started (Phase.started_of_not_waiting hw))

theorem machineRun_of_step {k : Nat} {s t : State} (h : step s = .next t) :
    machineRun (k + 1) s = machineRun k t := by
  rw [machineRun, h]

/-- `n` listed ticks count `n` and do nothing else (10_state.md R27). -/
theorem machineRun_ticks (n k : Nat) (l : List Turn) {s : State} (h : s.sched = List.replicate n .tick ++ l) :
    machineRun (n + k) s = machineRun k { s with ticks := s.ticks + BitVec.ofNat 32 n, sched := l } := by
  induction n generalizing s with
  | zero =>
    have hs : s.sched = l := h
    subst hs
    simp
  | succ n ih =>
    rw [Nat.succ_add, machineRun_of_step (step_tick (rest := List.replicate n .tick ++ l) h), ih rfl]
    have hn : s.ticks + 1#32 + BitVec.ofNat 32 n = s.ticks + BitVec.ofNat 32 (n + 1) := by
      rw [BitVec.add_assoc, Nat.add_comm n 1, BitVec.ofNat_add]
    rw [hn]

theorem waitStart_again (s : State) : waitStart .again s = s.t0 := rfl

/-- How one exchange of a busy wait leaves it (10_state.md R28). -/
theorem waitResult_busy (w : WaitPos) (s : State) :
    waitResult cardReady (s.latch w).toutBusy (s.latch w) =
      if s.answer = 0xFF#8 then .ok
      else if s.toutBusy.toNat ≤ (s.ticks - waitStart w s).toNat then .timeout
      else .again := by
  rw [State.latch_toutBusy, waitResult_latch]
  simp only [cardReady, beq_iff_eq]

/-- The state after one exchange of a busy wait, by the position each of its ends goes on to (10_state.md R28). -/
def busyWaited (w : WaitPos) (ready timeout again : Phase) (s : State) : State :=
  { s.exchange 0xFF#8 with
    t0 := waitStart w s
    phase :=
      if s.answer = 0xFF#8 then ready
      else if s.toutBusy.toNat ≤ (s.ticks - waitStart w s).toNat then timeout
      else again }

theorem waitReadyStep_eq (w : WaitPos) (s : State) :
    waitReadyStep w s = busyWaited w finishOk (.finish .onDrive .timeout) (.waitReady .again) s := by
  unfold waitReadyStep busyWaited
  dsimp only
  rw [waitResult_busy, State.exchange_latch]
  split_ifs <;> rfl

theorem exec_waitReady_at {w : WaitPos} {s : State} (hp : s.phase = .waitReady w) :
    exec .waitReady s = .next (waitReadyStep w s) := by
  simp [exec, execWaitReady, runPhase, hp]

theorem exec_receive_at {k : Nat} {p : RecvPos} {s : State} {r : State × RecvNext} (hp : s.phase = .recv k p)
    (hr : recvStep 512 p s = some r) : exec .receive s = .next (receiveNext k r) := by
  simp [exec, execReceive, runPhase, hp, hr]

theorem exec_waitReady_timeout {s : State} (hp : s.phase = .waitReady .again) (hb : s.answer ≠ 0xFF#8)
    (hlim : s.toutBusy.toNat ≤ (s.ticks - s.t0).toNat) :
    exec .waitReady s = .next { s.exchange 0xFF#8 with phase := .finish .onDrive .timeout } := by
  rw [exec_waitReady_at hp, waitReadyStep_eq, busyWaited, waitStart_again, if_neg hb, if_pos hlim]
  rfl

theorem exec_receive_timeout {k : Nat} {s : State} (hp : s.phase = .recv k (.token .again)) (hb : s.answer = 0xFF#8)
    (hlim : s.toutRead.toNat ≤ (s.ticks - s.t0).toNat) :
    exec .receive s = .next { s.exchange 0xFF#8 with dtoken := 0xFF#8, phase := .recvFailed tokenTimeout } := by
  rw [exec_receive_at hp rfl, recvToken_eq]
  dsimp only
  rw [waitStart_again, if_pos hb, if_pos hlim]
  rfl

theorem toNat_add_ofNat_sub_self {n : Nat} (x : Word) (hn : n < 2 ^ 32) : (x + BitVec.ofNat 32 n - x).toNat = n := by
  rw [BitVec.add_comm, BitVec.add_sub_cancel, BitVec.toNat_ofNat, Nat.mod_eq_of_lt hn]

/-- A wait whose first exchange began before `n` ticks stands, at the end of that exchange, `n` ticks after its `t0`. -/
theorem machineRun_late {s : State} {n : Nat} {rest : List Turn} {p q : Phase} {i : Instr} {t : State}
    (h : s.sched = .exchangeStarts :: (List.replicate n .tick ++ .engine :: rest)) (hp : s.phase = p)
    (hq : p.started = q) (hne : q ≠ p) (hi : decode s.op = .ok i)
    (he : exec i { s with t0 := s.ticks, ticks := s.ticks + BitVec.ofNat 32 n, phase := q, sched := rest } = .next t) :
    machineRun (n + 2) s = .next t := by
  have hstep := step_exchangeStarts_of_first h hp hq hne
  rw [show n + 2 = (n + 1) + 1 from rfl, machineRun_of_step hstep, machineRun_ticks n 1 (.engine :: rest) rfl]
  rw [machineRun_of_step (t := t)]
  · rfl
  · rw [step_engine (.inr rfl)]
    exact engineTurn_of_exec hi he

/-- Settles O55: `exec_tick` away from the waits, and `machineRun_late` for the wait that times out after one exchange. -/
theorem ticksMatterOnlyToWaits : Obligations.TicksMatterOnlyToWaits := by
  refine ⟨fun s rest h => step_tick h, fun i s t hw h => exec_tick hw h, fun s rest h => ?_, fun s n rest hn h => ?_⟩
  · refine ⟨?_, ?_, ?_, ?_, ?_, ?_, step_exchangeStarts_of_not_waiting h⟩
    · exact fun cls hp => step_exchangeStarts_of_first h hp rfl (by simp)
    · exact fun f cls hp => step_exchangeStarts_of_first h hp rfl (by simp)
    · exact fun k hp => step_exchangeStarts_of_first h hp rfl (by simp)
    · exact fun k hp => step_exchangeStarts_of_first h hp rfl (by simp)
    · exact fun f hp => step_exchangeStarts_of_first h hp rfl (by simp)
    · exact fun hp => step_exchangeStarts_of_first h hp rfl (by simp)
  · intro late
    have helapsed := toNat_add_ofNat_sub_self s.ticks hn
    refine ⟨fun hp hi hb hlim => ?_, fun k hp hi hb hlim => ?_⟩
    · exact machineRun_late h hp rfl (by simp [Phase.started]) hi (exec_waitReady_timeout rfl hb (hlim.trans_eq helapsed.symm))
    · exact machineRun_late h hp rfl (by simp [Phase.started]) hi (exec_receive_timeout rfl hb (hlim.trans_eq helapsed.symm))

end Sys2Proof.Machine
end

section
/-! PROOFS. Every wait ends when the Engine and the timebase take turns (10_state.md R28, 70_reset_and_hazards.md R122):
what one exchange of a wait can do, then one round of an exchange and a tick, then the count of the rounds. -/

namespace Sys2Proof.Machine

/-! ## What one exchange of a wait can do -/

/-- The limit of the wait at the position: TOUT_READ for a start token, else TOUT_BUSY (10_state.md R21, R28). -/
def waitLimit (s : State) : Word :=
  match s.phase with
  | .recv _ _ => s.toutRead
  | _ => s.toutBusy

/-- The ticks counted against the wait, `(ticks - t0) mod 2^32` (10_state.md R28). -/
def elapsed (s : State) : Nat := (s.ticks - s.t0).toNat

/-- The exchange left the wait where it was, its limit not yet reached. -/
structure StillWaiting (s t : State) : Prop where
  phase : t.phase = s.phase.started
  t0 : s.phase.started = s.phase → t.t0 = s.t0
  early : elapsed t < (waitLimit t).toNat

/-- An exchange of a wait ends the wait, or its limit is not yet reached (10_state.md R28). -/
def WaitOutcome (s t : State) : Prop := waiting t.phase = false ∨ StillWaiting s t

/-- At the positions `p` of one wait: the exchange that goes on stands at `again` with `t0` latched. -/
theorem stillWaiting_again {p : WaitPos → Phase} {w : WaitPos} {s t : State} (hp : s.phase = p w)
    (hstart : (p .first).started = p .again) (hne : p .again ≠ p .first) (ht : t.phase = p .again)
    (h0 : t.t0 = waitStart w s) (hearly : elapsed t < (waitLimit t).toNat) : StillWaiting s t := by
  cases w with
  | first => exact ⟨by rw [ht, hp, hstart], fun h => absurd (by rw [← hstart, ← hp, h]) hne, hearly⟩
  | again =>
    have hagain : (p .again).started = p .again := by rw [← hstart, Phase.started_started]
    exact ⟨by rw [ht, hp, hagain], fun _ => h0, hearly⟩

theorem busyWaited_outcome {p : WaitPos → Phase} {w : WaitPos} {ready timeout : Phase} {s : State}
    (hp : s.phase = p w) (hstart : (p .first).started = p .again) (hne : p .again ≠ p .first)
    (hlimit : ∀ k q, p .again ≠ .recv k q) (hready : waiting ready = false) (htimeout : waiting timeout = false) :
    WaitOutcome s (busyWaited w ready timeout (p .again) s) := by
  unfold WaitOutcome busyWaited
  dsimp only
  split_ifs with h1 h2
  · exact .inl hready
  · exact .inl htimeout
  · right
    refine stillWaiting_again hp hstart hne rfl rfl ?_
    unfold waitLimit
    split
    next hq => exact absurd hq (hlimit _ _)
    next => exact Nat.lt_of_not_le h2

theorem sendReady_eq (k : Nat) (w : WaitPos) (s : State) :
    sendReady k w s = busyWaited w (.send k .token) (.finish .onDrive .timeout) (.send k (.ready .again)) s := by
  unfold sendReady busyWaited
  dsimp only
  rw [waitResult_busy, State.exchange_latch]
  split_ifs <;> rfl

/-- Where the wait of StopSeq goes on to when it times out (42_data_transfer.md R99). -/
def stopTimeout : Option Failure → Phase
  | some f => .stopFailed f
  | none => .finish .onDrive .timeout

theorem stopNext_ready_eq (f : Option Failure) (w : WaitPos) (s : State) :
    stopNext f (stopStep (.ready w) s) = busyWaited w (.stop f .token) (stopTimeout f) (.stop f (.ready .again)) s := by
  unfold stopStep busyWaited
  dsimp only
  rw [waitResult_busy, State.exchange_latch]
  cases f <;> split_ifs <;> rfl

/-- The end of an attempt is the end of its wait (41_command.md R82). -/
theorem attemptEnd_next (cls : CompletionClass) (retryable : Bool) (s : State) :
    (attemptEnd cls retryable s).2 = .goOn (.resync .low) ∨ ∃ c, (attemptEnd cls retryable s).2 = .done c := by
  unfold attemptEnd
  split
  · exact .inl rfl
  · exact .inr ⟨cls, rfl⟩

/-- An exchange of the R1B busy wait ends its attempt, or goes on before the limit (41_command.md R80). -/
theorem busyStep_outcome (w : WaitPos) (cls : CompletionClass) (s : State) :
    ((busyStep w cls s).2 = .goOn (.resync .low) ∨ ∃ c, (busyStep w cls s).2 = .done c) ∨
      (busyStep w cls s = ({ s.exchange 0xFF#8 with t0 := waitStart w s }, .goOn (.busy .again cls)) ∧
        (s.ticks - waitStart w s).toNat < s.toutBusy.toNat) := by
  rw [busyStep_eq]
  split
  · exact .inl (attemptEnd_next ..)
  · split
    · exact .inl (attemptEnd_next ..)
    next hlt => exact .inr ⟨rfl, Nat.lt_of_not_le hlt⟩

theorem waiting_sendCmdNext {r : State × CmdNext} (h : r.2 = .goOn (.resync .low) ∨ ∃ c, r.2 = .done c) :
    waiting (sendCmdNext r).phase = false := by
  obtain ⟨u, q⟩ := r
  obtain rfl | ⟨c, rfl⟩ : q = .goOn (.resync .low) ∨ ∃ c, q = .done c := h
  · rfl
  · simp only [sendCmdNext, sendCmdFinish]
    split <;> rfl

theorem waiting_autoStopNext {f : Failure} {r : State × CmdNext}
    (h : r.2 = .goOn (.resync .low) ∨ ∃ c, r.2 = .done c) : waiting (autoStopNext f r).phase = false := by
  obtain ⟨u, q⟩ := r
  obtain rfl | ⟨c, rfl⟩ : q = .goOn (.resync .low) ∨ ∃ c, q = .done c := h
  · rfl
  · simp only [autoStopNext]
    split <;> rfl

/-- An exchange of the start-token wait ends it, or goes on before the limit (42_data_transfer.md R92). -/
theorem recvToken_next (n : Nat) (w : WaitPos) (s : State) :
    ((recvToken n w s).2 = .goOn (dataFrom n 0) ∨ ∃ f, (recvToken n w s).2 = .failed f) ∨
      (recvToken n w s = ({ s.exchange 0xFF#8 with t0 := waitStart w s }, .goOn (.token .again)) ∧
        (s.ticks - waitStart w s).toNat < s.toutRead.toNat) := by
  rw [recvToken_eq]
  dsimp only
  split
  · split
    · exact .inl (.inr ⟨_, rfl⟩)
    next hlt => exact .inr ⟨rfl, Nat.lt_of_not_le hlt⟩
  · split
    · exact .inl (.inl rfl)
    · exact .inl (.inr ⟨_, rfl⟩)
    · exact .inl (.inr ⟨_, rfl⟩)

theorem waiting_recv_dataFrom (k n j : Nat) : waiting (.recv k (dataFrom n j)) = false := by
  unfold dataFrom
  split <;> rfl

/-- A read's caller of RecvPacket, RECEIVE's or RECV_SHORT's, leaves the start-token wait with it. -/
theorem recvToken_outcome_of_next {n k : Nat} {w : WaitPos} {s : State} {next : State × RecvNext → State}
    (hp : s.phase = .recv k (.token w)) (hgoOn : ∀ u q, next (u, .goOn q) = u.setPhase (.recv k q))
    (hfailed : ∀ u f, next (u, .failed f) = u.setPhase (.recvFailed f)) :
    WaitOutcome s (next (recvToken n w s)) := by
  obtain hend | ⟨hr, hlt⟩ := recvToken_next n w s
  · left
    generalize recvToken n w s = r at hend
    obtain ⟨u, q⟩ := r
    obtain rfl | ⟨f, rfl⟩ : q = .goOn (dataFrom n 0) ∨ ∃ f, q = .failed f := hend
    · rw [hgoOn]
      exact waiting_recv_dataFrom k n 0
    · rw [hfailed]
      rfl
  · right
    rw [hr, hgoOn]
    exact stillWaiting_again (p := fun w => .recv k (.token w)) hp rfl (by simp) rfl rfl hlt

/-! ## Every operation at its waits -/

/-- An operation that stands at a wait has a step, and that step is an exchange of the wait (10_state.md R28). -/
theorem exec_at_wait {i : Instr} {s : State} (hf : phaseFits i s = true) (hw : waiting s.phase = true) :
    ∃ t, exec i s = .next t ∧ WaitOutcome s t := by
  unfold waiting at hw
  split at hw
  next w cls hp =>
    obtain ⟨kind, idx, hi⟩ : ∃ kind idx, commandOf i = some (kind, idx) := by
      cases i <;> simp [phaseFits, hp, transmitFits] at hf <;> exact ⟨_, _, rfl⟩
    rw [exec_of_commandOf hi]
    refine ⟨sendCmdNext (busyStep w cls s), by simp [sendCmdBody, runPhase, hp, cmdStep], ?_⟩
    obtain hend | ⟨hr, hlt⟩ := busyStep_outcome w cls s
    · exact .inl (waiting_sendCmdNext hend)
    · rw [hr]
      exact .inr (stillWaiting_again (p := fun w => .command (.busy w cls)) hp rfl (by simp) rfl rfl hlt)
  next f w cls hp =>
    obtain rfl : i = .receive := by
      cases i <;> simp [phaseFits, hp, commandFits, transmitFits] at hf
      rfl
    refine ⟨autoStopNext f (busyStep w cls s), by simp [exec, execReceive, runPhase, hp, autoStopStep, cmdStep], ?_⟩
    obtain hend | ⟨hr, hlt⟩ := busyStep_outcome w cls s
    · exact .inl (waiting_autoStopNext hend)
    · rw [hr]
      exact .inr (stillWaiting_again (p := fun w => .autoStop f (.busy w cls)) hp rfl (by simp) rfl rfl hlt)
  next k w hp =>
    obtain rfl | ⟨len, rfl⟩ : i = .receive ∨ ∃ len, i = .recvShort len := by
      cases i <;> simp [phaseFits, hp, commandFits, transmitFits] at hf <;> simp
    · exact ⟨_, exec_receive_at hp rfl, recvToken_outcome_of_next hp (fun _ _ => rfl) fun _ _ => rfl⟩
    · exact ⟨_, by simp [exec, execRecvShort, runPhase, hp, recvStep]; rfl,
        recvToken_outcome_of_next (next := recvShortNext k) hp (fun _ _ => rfl) fun _ _ => rfl⟩
  next k w hp =>
    obtain ⟨multi, final, hi⟩ : ∃ multi final, writeOf i = some (multi, final) := by
      cases i <;> simp [phaseFits, hp, commandFits] at hf <;> exact ⟨_, _, rfl⟩
    rw [exec_of_writeOf hi]
    refine ⟨sendReady k w s, by simp [transmitBody, runPhase, hp, sendStep], ?_⟩
    rw [sendReady_eq]
    exact busyWaited_outcome (p := fun w => .send k (.ready w)) hp rfl (by simp) nofun rfl rfl
  next f w hp =>
    obtain ⟨multi, final, hi⟩ : ∃ multi final, writeOf i = some (multi, final) := by
      cases i <;> simp [phaseFits, hp, commandFits] at hf <;> exact ⟨_, _, rfl⟩
    rw [exec_of_writeOf hi]
    refine ⟨stopNext f (stopStep (.ready w) s), by simp [transmitBody, runPhase, hp], ?_⟩
    rw [stopNext_ready_eq]
    exact busyWaited_outcome (p := fun w => .stop f (.ready w)) hp rfl (by simp) nofun rfl (by cases f <;> rfl)
  next w hp =>
    obtain rfl : i = .waitReady := by
      cases i <;> simp [phaseFits, hp, commandFits, transmitFits] at hf
      rfl
    refine ⟨waitReadyStep w s, exec_waitReady_at hp, ?_⟩
    rw [waitReadyStep_eq]
    exact busyWaited_outcome (p := .waitReady) hp rfl (by simp) nofun rfl rfl
  next => cases hw

theorem waitLimit_congr {s t : State} (hp : waitLimit { s with phase := t.phase } = waitLimit s)
    (hr : t.toutRead = s.toutRead) (hb : t.toutBusy = s.toutBusy) : waitLimit t = waitLimit s := by
  rw [← hp]
  simp only [waitLimit, hr, hb]

/-- The limit of a wait is that of its first exchange. -/
theorem waitLimit_started (s : State) : waitLimit { s with phase := s.phase.started } = waitLimit s := by
  unfold Phase.started
  split
  case h_7 => rfl
  all_goals
    rename_i hp
    simp only [waitLimit, hp]

/-! ## The rounds -/

/-- After the Engine's turn of a round at a wait: the wait has ended, or one exchange of it is done before its limit. -/
theorem step_at_wait {s : State} {l : List Turn} (hinv : s.inv = true) (hw : waiting s.phase = true)
    (hs : s.sched = .engine :: l) :
    ∃ t, step s = .next t ∧ (waiting t.phase = false ∨
      (StillWaiting s t ∧ t.inv = true ∧ t.sched = l ∧ t.ticks = s.ticks ∧ waitLimit t = waitLimit s)) := by
  have hi1 : s.phase ≠ .idle := fun h => by simp [h, waiting] at hw
  have hd1 : s.phase ≠ .decode := fun h => by simp [h, waiting] at hw
  obtain ⟨-, -, i, hi, -, hfit⟩ := (State.inv_of_running hi1 hd1).mp hinv
  have hpop : ({ s with sched := l } : State).inv = true := hinv
  obtain ⟨t, he, ho⟩ := exec_at_wait (s := { s with sched := l }) (i := i) hfit hw
  refine ⟨t, by rw [step_engine (.inr hs)]; exact engineTurn_of_exec hi he, ho.imp id fun hstill => ?_⟩
  have hframe := exec_sameHostSide he
  have hlimit : waitLimit t = waitLimit s :=
    waitLimit_congr (by rw [hstill.phase]; exact waitLimit_started s) hframe.toutRead hframe.toutBusy
  exact ⟨⟨hstill.phase, hstill.t0, hstill.early⟩, exec_inv (by exact hi) hpop he, hframe.sched, hframe.ticks, hlimit⟩

/-- The Engine and the timebase in turns, `n` times. -/
def rounds (n : Nat) : List Turn := (List.replicate n [Turn.engine, Turn.tick]).flatten

theorem rounds_succ (n : Nat) : rounds (n + 1) = .engine :: .tick :: rounds n := by
  simp [rounds, List.replicate_succ]

/-- A tick before the limit counts one against the wait (10_state.md R27). -/
theorem elapsed_tick {s : State} (h : elapsed s < (waitLimit s).toNat) (l : List Turn) :
    elapsed { s with ticks := s.ticks + 1#32, sched := l } = elapsed s + 1 := by
  have hlimit := (waitLimit s).isLt
  unfold elapsed at h ⊢
  have hsub : s.ticks + 1#32 - s.t0 = s.ticks - s.t0 + 1#32 := by
    rw [BitVec.sub_eq_add_neg, BitVec.sub_eq_add_neg, BitVec.add_assoc, BitVec.add_comm 1#32, BitVec.add_assoc]
  dsimp only
  rw [hsub, BitVec.toNat_add, BitVec.toNat_ofNat]
  omega

/-- One round at a wait that has not ended it: the wait has begun and stands one tick later. -/
structure RoundDone (s : State) (l : List Turn) (t : State) : Prop where
  run : ∀ k, machineRun (k + 2) s = machineRun k t
  inv : t.inv = true
  waits : waiting t.phase = true
  begun : t.phase.started = t.phase
  sched : t.sched = l
  limit : waitLimit t = waitLimit s
  inTime : elapsed t ≤ (waitLimit t).toNat
  later : s.phase.started = s.phase → elapsed t = elapsed s + 1

theorem round_at_wait {s : State} {l : List Turn} (hinv : s.inv = true) (hw : waiting s.phase = true)
    (hs : s.sched = .engine :: .tick :: l) :
    ∃ t, (step s = .next t ∧ waiting t.phase = false) ∨ RoundDone s l t := by
  obtain ⟨u, hstep, hleft | ⟨hstill, huinv, husched, hticks, hlimit⟩⟩ := step_at_wait hinv hw hs
  · exact ⟨u, .inl ⟨hstep, hleft⟩⟩
  · have htick := step_tick husched
    have hcount := elapsed_tick hstill.early l
    refine ⟨{ u with ticks := u.ticks + 1#32, sched := l }, .inr ⟨fun k => ?_, huinv, ?_, ?_, rfl, hlimit, ?_, ?_⟩⟩
    · rw [show k + 2 = (k + 1) + 1 from rfl, machineRun_of_step hstep, machineRun_of_step htick]
    · rw [← hw, hstill.phase, waiting_started]
    · rw [hstill.phase, Phase.started_started]
    · exact hcount.trans_le hstill.early
    · intro hbegun
      rw [hcount, elapsed, elapsed, hticks, hstill.t0 hbegun]

/-- A wait that has begun is left within as many rounds as ticks are left to its limit, and one more. -/
theorem begun_wait_ends (m : Nat) {s : State} (hinv : s.inv = true) (hw : waiting s.phase = true)
    (hbegun : s.phase.started = s.phase) (hs : s.sched = rounds (m + 1))
    (hm : (waitLimit s).toNat ≤ elapsed s + m) : ∃ k t, machineRun k s = .next t ∧ waiting t.phase = false := by
  induction m generalizing s with
  | zero =>
    obtain ⟨t, ⟨hstep, hleft⟩ | hround⟩ := round_at_wait hinv hw (hs.trans (rounds_succ _))
    · exact ⟨1, t, machineRun_of_step hstep, hleft⟩
    · have hlater := hround.later hbegun
      have hin := hround.limit ▸ hround.inTime
      omega
  | succ m ih =>
    obtain ⟨t, ⟨hstep, hleft⟩ | hround⟩ := round_at_wait hinv hw (hs.trans (rounds_succ _))
    · exact ⟨1, t, machineRun_of_step hstep, hleft⟩
    · have hlater := hround.later hbegun
      obtain ⟨k, u, hrun, hleft⟩ :=
        ih hround.inv hround.waits hround.begun hround.sched (by rw [hround.limit, hlater]; omega)
      exact ⟨k + 2, u, (hround.run k).trans hrun, hleft⟩

/-- Settles O57: one round begins the wait, and `begun_wait_ends` leaves it. -/
theorem everyWaitEnds : Obligations.EveryWaitEnds := by
  intro s hinv hw
  obtain ⟨m, hm⟩ : ∃ m, ∀ w : Word, w.toNat ≤ m := ⟨2 ^ 32, fun w => w.isLt.le⟩
  refine ⟨m + 2, ?_⟩
  have hinv' : ({ s with sched := rounds (m + 2) } : State).inv = true := hinv
  obtain ⟨t, ⟨hstep, hleft⟩ | hround⟩ := round_at_wait hinv' hw (rounds_succ (m + 1))
  · exact ⟨1, t, machineRun_of_step hstep, hleft⟩
  · obtain ⟨k, u, hrun, hleft⟩ :=
      begun_wait_ends m hround.inv hround.waits hround.begun hround.sched (le_add_left (hm _))
    exact ⟨k + 2, u, (hround.run k).trans hrun, hleft⟩

end Sys2Proof.Machine
end

section
/-! PROOFS. Which accesses of the host have a meaning (20_memory.md R31, R32, R44), that the machine refuses nothing else,
and the engine before an unbacked address (R36). -/

namespace Sys2Proof.Machine

/-! ## The host's accesses (20_memory.md R31, R32, R44) -/

theorem aligned_of_slotAt {o : Word} {sl : Slot} (h : slotAt o = some sl) : o.toNat % 4 = 0 ∧ o.toNat ≤ 0x3C := by
  unfold slotAt at h
  split at h
  case h_17 => cases h
  all_goals omega

/-- The accesses that name a slot are the aligned 32-bit ones inside the window (20_memory.md R32). -/
theorem accessedSlot_isSome_iff {size : AccessSize} {o : Word} :
    (accessedSlot size o).isSome ↔ size = .word ∧ o.toNat % 4 = 0 ∧ o.toNat ≤ 0x3C := by
  cases size with
  | byte | half => simp [accessedSlot]
  | word =>
    constructor
    · intro h
      obtain ⟨sl, hsl⟩ := Option.isSome_iff_exists.mp h
      exact ⟨rfl, aligned_of_slotAt hsl⟩
    · rintro ⟨-, ha, hle⟩
      obtain ⟨sl, hsl, -⟩ := exists_slotAt ha hle
      exact Option.isSome_iff_exists.mpr ⟨sl, hsl⟩

theorem hostRegRead_of_slot {size : AccessSize} {o : Word} {sl : Slot} (h : accessedSlot size o = some sl) (s : State) :
    hostRegRead size o s = .next { s with readData := readSlot sl s } := by
  simp [hostRegRead, h]

theorem hostRegWrite_of_slot {size : AccessSize} {o : Word} {sl : Slot} (h : accessedSlot size o = some sl) (w : Word)
    (s : State) : hostRegWrite size o w s = .next (writeSlot sl w s) := by
  simp [hostRegWrite, h]

theorem hostRegRead_of_no_slot {size : AccessSize} {o : Word} (h : accessedSlot size o = none) (s : State) :
    hostRegRead size o s = .refused .undefinedRegisterAccess := by
  simp [hostRegRead, h]

theorem hostRegWrite_of_no_slot {size : AccessSize} {o : Word} (h : accessedSlot size o = none) (w : Word) (s : State) :
    hostRegWrite size o w s = .refused .undefinedRegisterAccess := by
  simp [hostRegWrite, h]

/-- The bus address `SDSPI_BASE + o` names the offset `o`, wherever the window starts (20_memory.md R44). -/
theorem windowOffset_base_add (o : Word) : windowOffset (Config.sdspiBase + o) = o := by
  rw [windowOffset, BitVec.add_comm, BitVec.add_sub_cancel]

/-- Settles O47: an access has a meaning exactly when it names a slot, and a bus address names its offset's. -/
theorem onlyAlignedWordAccessesHaveAMeaning : Obligations.OnlyAlignedWordAccessesHaveAMeaning := by
  intro s size o w
  refine ⟨fun h => ?_, fun h => ?_, ?_, ?_, fun a => ?_, fun a v => ⟨s.storeByte a v, rfl, rfl, ?_, ?_⟩⟩
  · obtain ⟨sl, hsl⟩ := Option.isSome_iff_exists.mp (accessedSlot_isSome_iff.mpr h)
    exact ⟨⟨_, hostRegRead_of_slot hsl s⟩, ⟨_, hostRegWrite_of_slot hsl w s⟩⟩
  · have hnone : accessedSlot size o = none := by
      rw [← accessedSlot_isSome_iff] at h
      simpa using h
    exact ⟨hostRegRead_of_no_slot hnone s, hostRegWrite_of_no_slot hnone w s⟩
  · exact congrArg (hostRegRead size · s) (windowOffset_base_add o)
  · exact congrArg (hostRegWrite size · w s) (windowOffset_base_add o)
  · rw [hostStep, setWidth_eq_zero_append]
  · exact s.byteAt_storeByte_self a v
  · exact fun b hb => s.byteAt_storeByte_of_ne a b v hb

/-! ## An operation at a position of its own is not refused -/

theorem crcOp_ne_refused {update : State → State} {s : State} (hq : s.phase = .update) (r : Refusal) :
    crcOp update s ≠ .refused r := by
  simp [crcOp, runPhase, hq]

theorem chipSelectOp_ne_refused {v : Bool} {s : State} (hq : s.phase = .chipSelect) (r : Refusal) :
    chipSelectOp v s ≠ .refused r := by
  simp [chipSelectOp, runPhase, hq]

theorem sendCmdBody_ne_refused {kind : RKind} {idx : BitVec 6} {s : State} (hf : commandFits kind idx s = true)
    (r : Refusal) : sendCmdBody kind idx s ≠ .refused r := by
  unfold commandFits at hf
  split at hf
  next p hq => simp [sendCmdBody, runPhase, hq]
  next => cases hf

theorem transmitBody_ne_refused {legal multi final : Bool} {s : State} (hf : transmitFits multi final s = true)
    (r : Refusal) : transmitBody legal multi final s ≠ .refused r := by
  intro h
  unfold transmitFits at hf
  split at hf
  case h_2 k p hq =>
    simp only [transmitBody, runPhase, hq] at h
    split at h <;> cases h
  case h_7 => cases hf
  all_goals
    rename_i hq
    simp [transmitBody, runPhase, hq] at h

/-- At every position that the invariant allows, an operation has a step or stands before an unbacked address: it is
refused at no position of its own (10_state.md R25; assumption log 15). -/
theorem exec_ne_refused {i : Instr} {s : State} (hf : phaseFits i s = true) (r : Refusal) : exec i s ≠ .refused r := by
  intro h
  unfold phaseFits at hf
  split at hf
  next e c hq => simp [exec_finish i hq] at h
  next =>
    cases i with
    | crcClear | crc7Feed | crc16Feed =>
      rw [Bool.and_eq_true, beq_iff_eq] at hf
      simp only [exec, execCrcClear, execCrc7Feed, execCrc16Feed] at h
      exact crcOp_ne_refused hf.1 r h
    | select | deselect =>
      rw [Bool.and_eq_true, beq_iff_eq] at hf
      exact chipSelectOp_ne_refused hf.1 r h
    | sendCmdNone | sendCmdR1 | sendCmdR1B | sendCmdR2 | sendCmdR3 | sendCmdR7 => exact sendCmdBody_ne_refused hf r h
    | transmit | transmitM | transmitMF => exact transmitBody_ne_refused hf r h
    | receive =>
      dsimp only at hf
      split at hf
      next hq => simp [exec, execReceive, runPhase, hq] at h
      next k p hq =>
        simp only [exec, execReceive, runPhase, hq] at h
        split at h <;> cases h
      next hq => simp [exec, execReceive, runPhase, hq] at h
      next hq => simp [exec, execReceive, runPhase, hq] at h
      next => cases hf
    | recvShort len =>
      dsimp only at hf
      split at hf
      next hq => simp [exec, execRecvShort, runPhase, hq] at h
      next k p hq =>
        simp only [exec, execRecvShort, runPhase, hq] at h
        split at h <;> cases h
      next hq => simp [exec, execRecvShort, runPhase, hq] at h
      next => cases hf
    | waitReady =>
      dsimp only at hf
      split at hf
      next w hq => simp [exec, execWaitReady, runPhase, hq] at h
      next => cases hf
    | resync =>
      dsimp only at hf
      split at hf
      next q hq => simp [exec, execResync, runPhase, hq] at h
      next => cases hf
    | idle n =>
      dsimp only at hf
      split at hf
      next j hq => simp [exec, execIdle, runPhase, hq] at h
      next => cases hf

/-! ## The agents' turns -/

/-- Every fault is an unbacked access, where the engine stays (20_memory.md R36), so only a refusal is no step. -/
theorem exists_keepStuck {s : State} {x : StepResult} (h : ∀ r, x ≠ .refused r) : ∃ t, keepStuck s x = .next t := by
  cases x with
  | next t => exact ⟨t, rfl⟩
  | fault f => cases f; exact ⟨s, rfl⟩
  | refused r => exact absurd rfl (h r)

theorem exists_engineTurn {s : State} (hinv : s.inv = true) : ∃ t, engineTurn s = .next t := by
  by_cases hi : s.phase = .idle
  · exact ⟨s, engineTurn_of_idle hi⟩
  by_cases hd : s.phase = .decode
  · cases hw : decode s.op with
    | ok i => exact ⟨_, engineTurn_of_exec hw (exec_decode i hd)⟩
    | error e => exact ⟨_, by simp [engineTurn, hd, hw, illegalWordTurn]; rfl⟩
  · obtain ⟨-, -, i, hw, -, hfit⟩ := (State.inv_of_running hi hd).mp hinv
    rw [engineTurn_of_decode hw]
    exact exists_keepStuck (exec_ne_refused hfit)

theorem hostRegRead_answers (size : AccessSize) (o : Word) (s : State) :
    (∃ t, hostRegRead size o s = .next t) ∨ hostRegRead size o s = .refused .undefinedRegisterAccess := by
  cases h : accessedSlot size o with
  | some sl => exact .inl ⟨_, hostRegRead_of_slot h s⟩
  | none => exact .inr (hostRegRead_of_no_slot h s)

theorem hostRegWrite_answers (size : AccessSize) (o w : Word) (s : State) :
    (∃ t, hostRegWrite size o w s = .next t) ∨ hostRegWrite size o w s = .refused .undefinedRegisterAccess := by
  cases h : accessedSlot size o with
  | some sl => exact .inl ⟨_, hostRegWrite_of_slot h w s⟩
  | none => exact .inr (hostRegWrite_of_no_slot h w s)

theorem hostStep_answers (a : HostAction) (s : State) :
    (∃ t, hostStep a s = .next t) ∨ hostStep a s = .refused .undefinedRegisterAccess := by
  cases a with
  | regRead | busRead => exact hostRegRead_answers ..
  | regWrite | busWrite => exact hostRegWrite_answers ..
  | memRead | memWrite => exact .inl ⟨_, rfl⟩

/-- Everything a turn can answer in the invariant: a state, or the refusal of an undefined register access. -/
theorem takeTurn_answers {s : State} (hinv : s.inv = true) (u : Turn) :
    (∃ t, takeTurn u s = .next t) ∨
      (takeTurn u s = .refused .undefinedRegisterAccess ∧ ∃ a, u = .host a) := by
  cases u with
  | engine => exact .inl (exists_engineTurn hinv)
  | exchangeStarts | tick | reset => exact .inl ⟨_, rfl⟩
  | host a => exact (hostStep_answers a s).imp id fun h => ⟨h, a, rfl⟩

theorem State.sched_of_nextTurn_host {s : State} {a : HostAction} (h : s.nextTurn = .host a) :
    ∃ rest, s.sched = .host a :: rest := by
  unfold State.nextTurn at h
  cases hs : s.sched with
  | nil => simp [hs] at h
  | cons u rest => simp_all

/-- Settles O52: `exists_engineTurn` for the Engine, and `takeTurn_answers` for whoever's turn it is. -/
theorem nothingElseIsRefused : Obligations.NothingElseIsRefused := by
  intro s hinv
  have hpop : ({ s with sched := s.sched.tail } : State).inv = true := hinv
  refine ⟨exists_engineTurn hinv, ?_⟩
  rw [step_eq_takeTurn]
  obtain ⟨t, ht⟩ | ⟨hr, a, ha⟩ := takeTurn_answers hpop s.nextTurn
  · rw [ht]
    exact ⟨nofun, nofun⟩
  · rw [hr]
    refine ⟨fun r h => ?_, nofun⟩
    cases h
    exact ⟨rfl, a, State.sched_of_nextTurn_host ha⟩

/-! ## Before an unbacked address (20_memory.md R36) -/

/-- Being stuck depends on BUSY, OP, ADDR, the position and `Backed` alone. -/
theorem State.stuckAt_congr {s t : State} {a : Word} (hb : t.status.busy = s.status.busy) (ho : t.op = s.op)
    (ha : t.addr = s.addr) (hp : t.phase = s.phase) (hh : t.holes = s.holes) (h : s.stuckAt a) : t.stuckAt a := by
  simpa only [State.stuckAt, State.backed, dataAddr, hb, ho, ha, hp, hh] using h

/-- An operation has no step before the data byte of an unbacked address. -/
theorem exec_of_stuckAt {s : State} {a : Word} (h : s.stuckAt a) :
    ∃ i, decode s.op = .ok i ∧ exec i s = .fault .unbackedAccess := by
  obtain ⟨-, hb, ⟨k, j, hq, rfl, hi⟩ | ⟨k, j, hq, rfl, hi⟩⟩ := h
  · have hnone : ∀ n, recvStep n (.data j) s = none := fun n => recvStep_eq_none.mpr ⟨j, rfl, hb⟩
    obtain hi | ⟨len, hi⟩ := hi
    · exact ⟨_, hi, by simp [exec, execReceive, runPhase, hq, hnone]⟩
    · exact ⟨_, hi, by simp [exec, execRecvShort, runPhase, hq, hnone]⟩
  · have hbody : ∀ legal multi final, transmitBody legal multi final s = .fault .unbackedAccess := by
      intro legal multi final
      simp [transmitBody, runPhase, hq, sendStep_eq_none.mpr ⟨j, rfl, hb⟩]
    obtain hi | hi | hi := hi <;> exact ⟨_, hi, hbody ..⟩

theorem engineTurn_of_stuckAt {s : State} {a : Word} (h : s.stuckAt a) : engineTurn s = .next s := by
  obtain ⟨i, hi, he⟩ := exec_of_stuckAt h
  rw [engineTurn_of_decode hi, he]
  rfl

/-- A data byte is no wait, so no exchange begins there. -/
theorem startExchange_of_stuckAt {s : State} {a : Word} (h : s.stuckAt a) : s.startExchange = s := by
  refine State.startExchange_of_started (Phase.started_of_not_waiting ?_)
  obtain ⟨-, -, ⟨k, j, hq, -⟩ | ⟨k, j, hq, -⟩⟩ := h <;> rw [hq] <;> rfl

/-- While BUSY is 1 a host write moves only DONE and REJ (10_state.md R23). -/
theorem writeSlot_stuckAt {sl : Slot} {w : Word} {s : State} {a : Word} (h : s.stuckAt a) :
    (writeSlot sl w s).stuckAt a := by
  by_cases hsl : sl = .status
  · subst hsl
    rw [writeSlot_status]
    exact State.stuckAt_congr rfl rfl rfl rfl rfl h
  · rw [writeSlot_of_busy hsl h.1]
    exact State.stuckAt_congr rfl rfl rfl rfl rfl h

theorem hostStep_stuckAt {x : HostAction} {s t : State} {a : Word} (h : s.stuckAt a) (hs : hostStep x s = .next t) :
    t.stuckAt a := by
  obtain ⟨v, rfl⟩ | ⟨sl, w, rfl⟩ | ⟨b, v, rfl⟩ := hostStep_cases hs
  · exact State.stuckAt_congr rfl rfl rfl rfl rfl h
  · exact writeSlot_stuckAt h
  · exact State.stuckAt_congr rfl rfl rfl rfl rfl h

/-- Of all turns only a reset takes the engine away from an unbacked address (70_reset_and_hazards.md R122). -/
theorem takeTurn_stuckAt {u : Turn} {s t : State} {a : Word} (hu : u ≠ .reset) (h : s.stuckAt a)
    (ht : takeTurn u s = .next t) : t.stuckAt a := by
  cases u with
  | engine =>
    cases (engineTurn_of_stuckAt h).symm.trans ht
    exact h
  | exchangeStarts =>
    cases ht
    rwa [startExchange_of_stuckAt h]
  | tick =>
    cases ht
    exact State.stuckAt_congr rfl rfl rfl rfl rfl h
  | host x => exact hostStep_stuckAt h ht
  | reset => exact absurd rfl hu

/-- Settles O58: `exec_of_stuckAt`, and `takeTurn_stuckAt` for whoever's turn it is. -/
theorem unbackedAccessLeavesTheEngineStuck : Obligations.UnbackedAccessLeavesTheEngineStuck := by
  intro s t a h
  refine ⟨exec_of_stuckAt h, fun hreset hstep => ?_⟩
  rw [step_eq_takeTurn] at hstep
  have hpop : ({ s with sched := s.sched.tail } : State).stuckAt a := State.stuckAt_congr rfl rfl rfl rfl rfl h
  exact takeTurn_stuckAt (State.nextTurn_ne_reset hreset) hpop hstep

end Sys2Proof.Machine
end

section
/-! PROOFS. The engine never checks `cs` (20_memory.md R39): the chip select and the wire trace may be replaced before an
action of any operation, from the shared actions up to `exec`. -/

namespace Sys2Proof.Machine

/-! ## The chip select and the trace replaced -/

/-- The state with another chip select and another wire trace. -/
def State.rewired (c : Bool) (w : List WireEvent) (s : State) : State := { s with cs := c, wire := w }

@[simp] theorem State.rewired_phase (c : Bool) (w : List WireEvent) (s : State) : (s.rewired c w).phase = s.phase := rfl
@[simp] theorem State.rewired_arg (c : Bool) (w : List WireEvent) (s : State) : (s.rewired c w).arg = s.arg := rfl
@[simp] theorem State.rewired_ctrl (c : Bool) (w : List WireEvent) (s : State) : (s.rewired c w).ctrl = s.ctrl := rfl
@[simp] theorem State.rewired_attempt (c : Bool) (w : List WireEvent) (s : State) :
    (s.rewired c w).attempt = s.attempt := rfl
@[simp] theorem State.rewired_answer (c : Bool) (w : List WireEvent) (s : State) :
    (s.rewired c w).answer = s.answer := rfl

/-- The same on the state of an action's answer, whose outcome stays. -/
def rewiredFst {α : Type} (c : Bool) (w : List WireEvent) (r : State × α) : State × α := (r.1.rewired c w, r.2)

/-- With another chip select and another trace the action does the same but for them. -/
def ActsBlind {α : Type} (f : State → State × α) : Prop :=
  ∀ s c w, ∃ c' w', f (s.rewired c w) = rewiredFst c' w' (f s)

/-- With another chip select and another trace a step that answers a state answers the same but for them. -/
def StepsBlind (f : State → StepResult) : Prop :=
  ∀ s t c w, f s = .next t → ∃ c' w', f (s.rewired c w) = .next (t.rewired c' w')

/-! ## The shared actions -/

theorem attemptEnd_rewired (cls : CompletionClass) (retryable : Bool) (c : Bool) (w : List WireEvent) (s : State) :
    attemptEnd cls retryable (s.rewired c w) = rewiredFst c w (attemptEnd cls retryable s) := by
  unfold attemptEnd
  rw [State.rewired_attempt, State.rewired_ctrl]
  split <;> rfl

theorem r1Found_rewired (idx : BitVec 6) (kind : RKind) (rx : Byte) (c : Bool) (w : List WireEvent) (s : State) :
    r1Found idx kind rx (s.rewired c w) = rewiredFst c w (r1Found idx kind rx s) := by
  cases kind with
  | r1b | r2 | r3 | r7 => rfl
  | r1 | noResp => exact attemptEnd_rewired _ _ c w { s with resp := maskR1 idx rx }

theorem frameStep_blind (idx : BitVec 6) (arg : Word) (kind : RKind) (k : Nat) :
    ActsBlind (frameStep idx arg kind k) := by
  intro s c w
  unfold frameStep sendFrameEnd
  split
  · exact ⟨_, _, rfl⟩
  · split <;> exact ⟨_, _, rfl⟩

theorem pollStep_blind (idx : BitVec 6) (kind : RKind) (k : Nat) : ActsBlind (pollStep idx kind k) := by
  intro s c w
  unfold pollStep
  dsimp only
  rw [State.rewired_answer]
  split
  · exact ⟨_, _, r1Found_rewired idx kind s.answer _ _ (s.exchange Config.idleByte)⟩
  · split
    · exact ⟨_, _, rfl⟩
    · exact ⟨_, _, attemptEnd_rewired _ _ _ _ { s.exchange Config.idleByte with resp := s.answer }⟩

theorem tailStep_blind (kind : RKind) (k : Nat) (cls : CompletionClass) : ActsBlind (tailStep kind k cls) := by
  intro s c w
  unfold tailStep
  dsimp only
  split
  · exact ⟨_, _, rfl⟩
  · exact ⟨_, _, attemptEnd_rewired _ _ _ _ { s.exchange Config.idleByte with respx := respxAfter kind s.respx s.answer }⟩

theorem busyStep_blind (p : WaitPos) (cls : CompletionClass) : ActsBlind (busyStep p cls) := by
  intro s c w
  have hwaited := fun cls retryable => attemptEnd_rewired cls retryable c (.xchg c 0xFF#8 s.answer :: w)
    { s.exchange 0xFF#8 with t0 := waitStart p s }
  rw [busyStep_eq, busyStep_eq, State.rewired_answer]
  split
  · exact ⟨_, _, hwaited ..⟩
  · change ∃ c' w', (if s.toutBusy.toNat ≤ (s.ticks - waitStart p s).toNat then _ else _) = _
    split
    · exact ⟨_, _, hwaited ..⟩
    · exact ⟨_, _, rfl⟩

/-- No action of CmdCore reads the chip select (41_command.md R84). -/
theorem cmdStep_blind (idx : BitVec 6) (arg : Word) (kind : RKind) (p : CmdPos) :
    ActsBlind (cmdStep idx arg kind p) := by
  intro s c w
  cases p with
  | start => exact frameStep_blind idx arg kind 0 { s with attempt := 0#4, status := { s.status with attempts := 0#4 } } c w
  | frame k => exact frameStep_blind idx arg kind k s c w
  | stuff => exact ⟨_, _, rfl⟩
  | poll k => exact pollStep_blind idx kind k s c w
  | tail k cls => exact tailStep_blind kind k cls s c w
  | busy q cls => exact busyStep_blind q cls s c w
  | resync q => cases q <;> exact ⟨_, _, rfl⟩

theorem recvToken_blind (n : Nat) (p : WaitPos) : ActsBlind (recvToken n p) := by
  intro s c w
  rw [recvToken_eq, recvToken_eq]
  dsimp only
  rw [State.rewired_answer]
  split
  · change ∃ c' w', (if s.toutRead.toNat ≤ (s.ticks - waitStart p s).toNat then _ else _) = _
    split <;> exact ⟨_, _, rfl⟩
  · split <;> exact ⟨_, _, rfl⟩

theorem recvCrcLo_blind (n : Nat) : ActsBlind (recvCrcLo n) := by
  intro s c w
  unfold recvCrcLo
  dsimp only
  change ∃ c' w', (if s.crc16Rx ||| s.answer.setWidth 16 = s.crc16 then _ else _) = _
  split <;> exact ⟨_, _, rfl⟩

/-- No action of RecvPacket reads the chip select (42_data_transfer.md R93). -/
theorem recvStep_blind {n : Nat} {p : RecvPos} {s : State} {r : State × RecvNext} (h : recvStep n p s = some r)
    (c : Bool) (w : List WireEvent) : ∃ c' w', recvStep n p (s.rewired c w) = some (rewiredFst c' w' r) := by
  cases p with
  | token q =>
    cases h
    obtain ⟨c', w', he⟩ := recvToken_blind n q s c w
    exact ⟨c', w', congrArg some he⟩
  | data j =>
    simp only [recvStep] at h ⊢
    split at h <;> cases h
    next hb => exact ⟨_, _, if_pos hb⟩
  | crcHi =>
    cases h
    exact ⟨_, _, rfl⟩
  | crcLo =>
    cases h
    obtain ⟨c', w', he⟩ := recvCrcLo_blind n s c w
    exact ⟨c', w', congrArg some he⟩

theorem busyWaited_rewired (p : WaitPos) (ready timeout again : Phase) (c : Bool) (w : List WireEvent) (s : State) :
    busyWaited p ready timeout again (s.rewired c w) =
      (busyWaited p ready timeout again s).rewired c (.xchg c 0xFF#8 s.answer :: w) := rfl

theorem sendResponse_rewired (multi final : Bool) (k : Nat) (c : Bool) (w : List WireEvent) (s : State) :
    sendResponse multi final k (s.rewired c w) =
      (sendResponse multi final k s).rewired c (.xchg c Config.idleByte s.answer :: w) := by
  unfold sendResponse
  dsimp only
  rw [State.rewired_answer]
  split <;> rfl

/-- No action of a written block reads the chip select (42_data_transfer.md R99). -/
theorem sendStep_blind {multi final : Bool} {k : Nat} {p : SendPos} {s t : State}
    (h : sendStep multi final k p s = some t) (c : Bool) (w : List WireEvent) :
    ∃ c' w', sendStep multi final k p (s.rewired c w) = some (t.rewired c' w') := by
  cases p with
  | ready q =>
    cases h
    simp only [sendStep, sendReady_eq, busyWaited_rewired]
    exact ⟨_, _, rfl⟩
  | data j =>
    simp only [sendStep] at h ⊢
    split at h <;> cases h
    next hb => exact ⟨_, _, if_pos hb⟩
  | response =>
    cases h
    exact ⟨_, _, congrArg some (sendResponse_rewired ..)⟩
  | token | crcHi | crcLo =>
    cases h
    exact ⟨_, _, rfl⟩

/-! ## Going on to the next position -/

theorem sendCmdNext_rewired (c : Bool) (w : List WireEvent) (r : State × CmdNext) :
    sendCmdNext (rewiredFst c w r) = (sendCmdNext r).rewired c w := by
  obtain ⟨s, p | cls⟩ := r <;> rfl

theorem autoStopNext_rewired (f : Failure) (c : Bool) (w : List WireEvent) (r : State × CmdNext) :
    autoStopNext f (rewiredFst c w r) = (autoStopNext f r).rewired c w := by
  obtain ⟨s, p | cls⟩ := r
  · rfl
  · simp only [rewiredFst, autoStopNext]
    split <;> rfl

theorem receiveNext_rewired (k : Nat) (c : Bool) (w : List WireEvent) (r : State × RecvNext) :
    receiveNext k (rewiredFst c w r) = (receiveNext k r).rewired c w := by
  obtain ⟨s, p | _ | f⟩ := r <;> rfl

theorem recvShortNext_rewired (k : Nat) (c : Bool) (w : List WireEvent) (r : State × RecvNext) :
    recvShortNext k (rewiredFst c w r) = (recvShortNext k r).rewired c w := by
  obtain ⟨s, p | _ | f⟩ := r <;> rfl

/-- No action of StopSeq reads the chip select (42_data_transfer.md R98). -/
theorem stopNext_stopStep_rewired (f : Option Failure) (p : StopPos) (c : Bool) (w : List WireEvent) (s : State) :
    ∃ c' w', stopNext f (stopStep p (s.rewired c w)) = (stopNext f (stopStep p s)).rewired c' w' := by
  cases p with
  | ready q =>
    rw [stopNext_ready_eq, stopNext_ready_eq, busyWaited_rewired]
    exact ⟨_, _, rfl⟩
  | token => exact ⟨_, _, rfl⟩
  | stuff => cases f <;> exact ⟨_, _, rfl⟩

/-! ## The operations -/

/-- Idle, the decode step and `Finish` do not read the chip select, so an operation's own positions decide. -/
theorem runPhase_blind {legal : Bool} {first : Phase} {body : State → StepResult} (hbody : StepsBlind body) :
    StepsBlind (runPhase legal first body) := by
  intro s t c w h
  obtain ⟨hp, rfl⟩ | ⟨hp, rfl⟩ | ⟨e, cls, hp, rfl⟩ | ⟨h1, h2, h3, hb⟩ := runPhase_cases h
  · exact ⟨c, w, runPhase_idle hp⟩
  · rw [runPhase_decode (by exact hp)]
    cases legal <;> exact ⟨_, _, rfl⟩
  · exact ⟨_, _, runPhase_finish hp⟩
  · rw [runPhase_of_isAction (s := s.rewired c w) ⟨h1, h2, h3⟩]
    exact hbody s t c w hb

theorem crcOp_blind {update : State → State} (hu : ∀ c w s, update (s.rewired c w) = (update s).rewired c w) :
    StepsBlind (crcOp update) := by
  refine runPhase_blind fun s t c w hb => ?_
  split at hb <;> cases hb
  next hq =>
    simp only [State.rewired_phase, hq, hu]
    exact ⟨_, _, rfl⟩

theorem chipSelectOp_blind (v : Bool) : StepsBlind (chipSelectOp v) := by
  refine runPhase_blind fun s t c w hb => ?_
  split at hb <;> cases hb
  next hq =>
    simp only [State.rewired_phase, hq]
    exact ⟨_, _, rfl⟩

theorem execWaitReady_blind : StepsBlind execWaitReady := by
  refine runPhase_blind fun s t c w hb => ?_
  split at hb <;> cases hb
  next hq =>
    simp only [State.rewired_phase, hq, waitReadyStep_eq, busyWaited_rewired]
    exact ⟨_, _, rfl⟩

theorem execResync_blind : StepsBlind execResync := by
  refine runPhase_blind fun s t c w hb => ?_
  split at hb <;> cases hb
  next p hq =>
    simp only [State.rewired_phase, hq]
    cases p <;> exact ⟨_, _, rfl⟩

theorem execIdle_blind (n : BitVec 11) : StepsBlind (execIdle n) := by
  refine runPhase_blind fun s t c w hb => ?_
  split at hb <;> cases hb
  next hq =>
    simp only [State.rewired_phase, hq]
    exact ⟨_, _, rfl⟩

theorem sendCmdBody_blind (kind : RKind) (idx : BitVec 6) : StepsBlind (sendCmdBody kind idx) := by
  refine runPhase_blind fun s t c w hb => ?_
  split at hb <;> cases hb
  next p hq =>
    obtain ⟨c', w', he⟩ := cmdStep_blind idx s.arg kind p s c w
    simp only [State.rewired_phase, State.rewired_arg, hq, he, sendCmdNext_rewired]
    exact ⟨_, _, rfl⟩

theorem execReceive_blind : StepsBlind execReceive := by
  refine runPhase_blind fun s t c w hb => ?_
  split at hb
  next hq =>
    cases hb
    simp only [State.rewired_phase, hq]
    exact ⟨_, _, rfl⟩
  next k p hq =>
    split at hb <;> cases hb
    next r hr =>
      obtain ⟨c', w', he⟩ := recvStep_blind hr c w
      simp only [State.rewired_phase, hq, he, receiveNext_rewired]
      exact ⟨_, _, rfl⟩
  next hq =>
    cases hb
    simp only [State.rewired_phase, hq]
    exact ⟨_, _, rfl⟩
  next f p hq =>
    cases hb
    obtain ⟨c', w', he⟩ := cmdStep_blind 12#6 0#32 .r1b p s c w
    simp only [State.rewired_phase, hq, autoStopStep, he, autoStopNext_rewired]
    exact ⟨_, _, rfl⟩
  next => cases hb

theorem execRecvShort_blind (len : BitVec 10) : StepsBlind (execRecvShort len) := by
  refine runPhase_blind fun s t c w hb => ?_
  split at hb
  next hq =>
    cases hb
    simp only [State.rewired_phase, hq]
    exact ⟨_, _, rfl⟩
  next k p hq =>
    split at hb <;> cases hb
    next r hr =>
      obtain ⟨c', w', he⟩ := recvStep_blind hr c w
      simp only [State.rewired_phase, hq, he, recvShortNext_rewired]
      exact ⟨_, _, rfl⟩
  next hq =>
    cases hb
    simp only [State.rewired_phase, hq]
    exact ⟨_, _, rfl⟩
  next => cases hb

theorem transmitBody_blind (legal multi final : Bool) : StepsBlind (transmitBody legal multi final) := by
  refine runPhase_blind fun s t c w hb => ?_
  split at hb
  next hq =>
    cases hb
    simp only [State.rewired_phase, hq]
    exact ⟨_, _, rfl⟩
  next k p hq =>
    split at hb <;> cases hb
    next hr =>
      obtain ⟨c', w', he⟩ := sendStep_blind hr c w
      simp only [State.rewired_phase, hq, he]
      exact ⟨_, _, rfl⟩
  next f p hq =>
    cases hb
    obtain ⟨c', w', he⟩ := stopNext_stopStep_rewired f p c w s
    simp only [State.rewired_phase, hq, he]
    exact ⟨_, _, rfl⟩
  next hq =>
    cases hb
    simp only [State.rewired_phase, hq]
    exact ⟨_, _, rfl⟩
  next hq =>
    cases hb
    simp only [State.rewired_phase, hq]
    exact ⟨_, _, rfl⟩
  next => cases hb

/-- No operation reads the chip select at any position (20_memory.md R39). -/
theorem exec_blind (i : Instr) : StepsBlind (exec i) := by
  cases i with
  | crcClear | crc7Feed | crc16Feed => exact crcOp_blind fun _ _ _ => rfl
  | sendCmdNone | sendCmdR1 | sendCmdR1B | sendCmdR2 | sendCmdR3 | sendCmdR7 => exact sendCmdBody_blind _ _
  | receive => exact execReceive_blind
  | recvShort len => exact execRecvShort_blind len
  | transmit => exact fun s => transmitBody_blind (decide (s.count.toNat ≤ 1)) false false s
  | transmitM | transmitMF => exact transmitBody_blind _ _ _
  | waitReady => exact execWaitReady_blind
  | select | deselect => exact chipSelectOp_blind _
  | resync => exact execResync_blind
  | idle n => exact execIdle_blind n

/-- Settles O56: `exec_blind` with the trace as it was. -/
theorem operationsDoNotCheckChipSelect : Obligations.OperationsDoNotCheckChipSelect := by
  intro i s t v h
  obtain ⟨c, w, he⟩ := exec_blind i s t v s.wire h
  exact ⟨t.rewired c w, he, rfl⟩

end Sys2Proof.Machine
end

section
/-! PROOFS. The operation word (30_encoding.md R49 to R51): at most one row of the opcode map selects a word, the decoder
is the search of the map, and decoder and encoder are inverse. -/

namespace Sys2Proof

/-! ## The rows of the opcode map (30_encoding.md R51) -/

theorem OpRow.selects_iff {r : OpRow} {w : Word} : r.selects w = true ↔ w &&& r.mask = r.pattern := by
  simp [OpRow.selects]

/-- The two rows ask for different values of a bit that both masks fix. -/
def OpRow.Apart (r r' : OpRow) : Prop := r.pattern &&& r'.mask ≠ r'.pattern &&& r.mask

theorem OpRow.Apart.symm {r r' : OpRow} (h : r.Apart r') : r'.Apart r := Ne.symm h

theorem OpRow.Apart.not_both {r r' : OpRow} (h : r.Apart r') {w : Word} (hr : r.selects w = true)
    (hr' : r'.selects w = true) : False := by
  rw [selects_iff] at hr hr'
  exact h (by rw [← hr, ← hr', BitVec.and_assoc, BitVec.and_assoc, BitVec.and_comm r.mask])

theorem opcodeMap_apart : opcodeMap.Pairwise OpRow.Apart := by
  unfold OpRow.Apart
  decide

/-- "at most one row matches any word" (30_encoding.md R51). -/
theorem eq_of_selects {r r' : OpRow} (hr : r ∈ opcodeMap) (hr' : r' ∈ opcodeMap) {w : Word}
    (h : r.selects w = true) (h' : r'.selects w = true) : r = r' := by
  have : Std.Symm OpRow.Apart := ⟨fun _ _ => OpRow.Apart.symm⟩
  by_contra hne
  exact (opcodeMap_apart.forall hr hr' hne).not_both h h'

theorem length_filter_selects (w : Word) : (opcodeMap.filter fun r => r.selects w).length ≤ 1 := by
  have hnodup : (opcodeMap.filter fun r => r.selects w).Nodup := List.Nodup.filter _ (by decide)
  rw [← List.toFinset_card_of_nodup hnodup, Finset.card_le_one]
  intro r hr r' hr'
  obtain ⟨hm, h⟩ := List.mem_filter.mp (List.mem_toFinset.mp hr)
  obtain ⟨hm', h'⟩ := List.mem_filter.mp (List.mem_toFinset.mp hr')
  exact eq_of_selects hm hm' h h'

/-! ## The decoder as a search of the map -/

/-- The operation that each row gives a word, in the order of the map, with the operands of R50. -/
def rowReaders : List (Word → Instr) := [
  fun w => .crcClear (w.getLsbD 16) (w.getLsbD 17),
  fun w => .crc7Feed (fieldByte w),
  fun w => .crc16Feed (fieldByte w),
  fun w => .sendCmdNone (fieldIdx w),
  fun w => .sendCmdR1 (fieldIdx w),
  fun w => .sendCmdR1B (fieldIdx w),
  fun w => .sendCmdR2 (fieldIdx w),
  fun w => .sendCmdR3 (fieldIdx w),
  fun w => .sendCmdR7 (fieldIdx w),
  fun _ => .receive,
  fun w => .recvShort (fieldLen w),
  fun _ => .transmit,
  fun _ => .transmitM,
  fun _ => .transmitMF,
  fun _ => .waitReady,
  fun _ => .select,
  fun _ => .deselect,
  fun _ => .resync,
  fun w => .idle (fieldN w)]

/-- Each row of the opcode map with its reader; `decode_eq_searchTable` ties it to the decoder. -/
def decodeTable : List (OpRow × (Word → Instr)) := opcodeMap.zip rowReaders

theorem decodeTable_rows : decodeTable.map Prod.fst = opcodeMap := rfl

theorem decodeTable_apart : decodeTable.Pairwise fun d e => d.1.Apart e.1 :=
  List.pairwise_map.mp (decodeTable_rows ▸ opcodeMap_apart)

/-- What the first row of the table that selects the word gives it. -/
def searchTable (table : List (OpRow × (Word → Instr))) (w : Word) : Except DecodeError Instr :=
  match table with
  | [] => .error (rejectReason w)
  | e :: rest => if w &&& e.1.mask = e.1.pattern then .ok (e.2 w) else searchTable rest w

theorem decode_eq_searchTable (w : Word) : decode w = searchTable decodeTable w := by
  have hfull : w &&& 0xFFFFFFFF#32 = w := BitVec.and_allOnes
  simp only [decodeTable, opcodeMap, rowReaders, List.zip_cons_cons, searchTable, hfull]
  rfl

theorem searchTable_of_entry {table : List (OpRow × (Word → Instr))}
    (hapart : table.Pairwise fun d e => d.1.Apart e.1) {e : OpRow × (Word → Instr)} (he : e ∈ table) {w : Word}
    (hw : e.1.selects w = true) : searchTable table w = .ok (e.2 w) := by
  induction hapart with
  | nil => cases he
  | @cons d rest hd _ ih =>
    obtain rfl | he := List.mem_cons.mp he
    · exact if_pos (OpRow.selects_iff.mp hw)
    · exact (if_neg fun h => (hd e he).not_both (OpRow.selects_iff.mpr h) hw).trans (ih he)

theorem entry_of_searchTable {table : List (OpRow × (Word → Instr))} {w : Word} {i : Instr}
    (h : searchTable table w = .ok i) : ∃ e ∈ table, e.1.selects w = true ∧ e.2 w = i := by
  induction table with
  | nil => cases h
  | cons d rest ih =>
    unfold searchTable at h
    split at h
    next hw =>
      injection h with h
      exact ⟨d, List.mem_cons_self, OpRow.selects_iff.mpr hw, h⟩
    next =>
      obtain ⟨e, he, hs⟩ := ih h
      exact ⟨e, List.mem_cons_of_mem _ he, hs⟩

theorem decode_eq_ok_iff {w : Word} {i : Instr} :
    decode w = .ok i ↔ ∃ e ∈ decodeTable, e.1.selects w = true ∧ e.2 w = i := by
  rw [decode_eq_searchTable]
  constructor
  · exact entry_of_searchTable
  · rintro ⟨e, he, hw, rfl⟩
    exact searchTable_of_entry decodeTable_apart he hw

theorem mnemonic_of_entry (w : Word) : ∀ e ∈ decodeTable, mnemonic (e.2 w) = e.1.mnemonic := by
  simp [decodeTable, opcodeMap, rowReaders, mnemonic]

theorem decode_of_row {r : OpRow} (hr : r ∈ opcodeMap) {w : Word} (hw : r.selects w = true) :
    ∃ i, decode w = .ok i ∧ mnemonic i = r.mnemonic := by
  obtain ⟨e, he, rfl⟩ := List.mem_map.mp (decodeTable_rows ▸ hr)
  exact ⟨e.2 w, decode_eq_ok_iff.mpr ⟨e, he, hw, rfl⟩, mnemonic_of_entry w e he⟩

theorem row_of_decode {w : Word} {i : Instr} (h : decode w = .ok i) :
    ∃ r ∈ opcodeMap, r.selects w = true ∧ mnemonic i = r.mnemonic := by
  obtain ⟨e, he, hw, rfl⟩ := decode_eq_ok_iff.mp h
  exact ⟨e.1, decodeTable_rows ▸ List.mem_map_of_mem he, hw, mnemonic_of_entry w e he⟩

/-- Settles O2: the rows are pairwise apart, so the row the search stops at is the only one that selects. -/
theorem decodeFollowsTheOneRowThatSelects : Obligations.DecodeFollowsTheOneRowThatSelects := by
  refine fun w => ⟨length_filter_selects w, fun r hr hw => decode_of_row hr hw, fun hnone => ?_⟩
  cases hd : decode w with
  | error err => exact ⟨err, rfl⟩
  | ok i =>
    obtain ⟨r, hr, hw, -⟩ := row_of_decode hd
    cases (hnone r hr).symm.trans hw

/-! ## A field between fixed bits -/

section
variable {m n k : Nat} (hi : BitVec m) (lo : BitVec k)

theorem extractLsb'_append_append (x : BitVec n) : (hi ++ x ++ lo).extractLsb' k n = x := by
  ext j hj
  simp [BitVec.getLsbD_append, hj]

/-- Putting a word's own field between fixed bits is taking the word's bits where the mask of the fixed bits is 0. -/
theorem append_extractLsb'_append {p q : BitVec (m + n + k)} (hp : hi ++ 0#n ++ lo = p)
    (hq : BitVec.allOnes m ++ 0#n ++ BitVec.allOnes k = q) (w : BitVec (m + n + k)) :
    hi ++ w.extractLsb' k n ++ lo = p ||| w &&& ~~~q := by
  subst hp hq
  ext j hj
  simp only [BitVec.getElem_or, BitVec.getElem_and, BitVec.getElem_not, BitVec.getElem_append]
  split
  · simp
  · split
    · have : k + (j - k) = j := by omega
      simp [this, BitVec.getLsbD_eq_getElem hj]
    · simp

end

/-! ## The formats of 30_encoding.md R49 -/

theorem wordB_eq (byte : Byte) (opcode : BitVec 4) : wordB byte opcode = 0#8 ++ byte ++ (0#12 ++ opcode) :=
  BitVec.append_assoc

theorem wordL_eq (len : BitVec 10) : wordL len = 0#6 ++ len ++ (0#12 ++ 6#4) :=
  BitVec.append_assoc

theorem wordI_eq (n : BitVec 11) : wordI n = 0#5 ++ n ++ (0#12 ++ 0xC#4) :=
  BitVec.append_assoc

/-- C16 and C7 are one field of two bits. -/
theorem wordK_eq (x : BitVec 2) : wordK (x.getLsbD 1) (x.getLsbD 0) = 0#14 ++ x ++ (0#12 ++ 1#4) := by
  revert x
  decide

/-! Each field is read back from its format. -/

theorem fieldIdx_wordC (rkind : BitVec 3) (idx : BitVec 6) : fieldIdx (wordC rkind idx) = idx :=
  extractLsb'_append_append ..

theorem fieldByte_wordB (byte : Byte) (opcode : BitVec 4) : fieldByte (wordB byte opcode) = byte := by
  rw [wordB_eq]
  exact extractLsb'_append_append ..

theorem fieldLen_wordL (len : BitVec 10) : fieldLen (wordL len) = len := by
  rw [wordL_eq]
  exact extractLsb'_append_append ..

theorem fieldN_wordI (n : BitVec 11) : fieldN (wordI n) = n := by
  rw [wordI_eq]
  exact extractLsb'_append_append ..

theorem getLsbD_wordK (c7 c16 : Bool) : (wordK c16 c7).getLsbD 16 = c7 ∧ (wordK c16 c7).getLsbD 17 = c16 := by
  revert c7 c16
  decide

/-! A format filled with a word's own field has the word's bits where the mask of its rows (R51) is 0. -/

theorem wordC_fieldIdx (rkind : BitVec 3) (w : Word) :
    wordC rkind (fieldIdx w) = wordC rkind 0#6 ||| w &&& ~~~0xFFFFFC0F#32 :=
  have hq : BitVec.allOnes 22 ++ 0#6 ++ BitVec.allOnes 4 = 0xFFFFFC0F#32 := rfl
  append_extractLsb'_append (0#19 ++ rkind) 4#4 rfl hq w

theorem wordB_fieldByte (opcode : BitVec 4) (w : Word) :
    wordB (fieldByte w) opcode = wordB 0#8 opcode ||| w &&& ~~~0xFF00FFFF#32 := by
  have hq : BitVec.allOnes 8 ++ 0#8 ++ BitVec.allOnes 16 = 0xFF00FFFF#32 := rfl
  rw [wordB_eq, wordB_eq]
  exact append_extractLsb'_append 0#8 (0#12 ++ opcode) rfl hq w

theorem wordL_fieldLen (w : Word) : wordL (fieldLen w) = wordL 0#10 ||| w &&& ~~~0xFC00FFFF#32 := by
  have hq : BitVec.allOnes 6 ++ 0#10 ++ BitVec.allOnes 16 = 0xFC00FFFF#32 := rfl
  rw [wordL_eq, wordL_eq]
  exact append_extractLsb'_append 0#6 (0#12 ++ 6#4) rfl hq w

theorem wordI_fieldN (w : Word) : wordI (fieldN w) = wordI 0#11 ||| w &&& ~~~0xF800FFFF#32 := by
  have hq : BitVec.allOnes 5 ++ 0#11 ++ BitVec.allOnes 16 = 0xF800FFFF#32 := rfl
  rw [wordI_eq, wordI_eq]
  exact append_extractLsb'_append 0#5 (0#12 ++ 0xC#4) rfl hq w

theorem wordK_getLsbD (w : Word) :
    wordK (w.getLsbD 17) (w.getLsbD 16) = wordK false false ||| w &&& ~~~0xFFFCFFFF#32 := by
  have hq : BitVec.allOnes 14 ++ 0#2 ++ BitVec.allOnes 16 = 0xFFFCFFFF#32 := rfl
  have hfield := wordK_eq (w.extractLsb' 16 2)
  simp only [BitVec.getLsbD_extractLsb'] at hfield
  refine Eq.trans hfield ?_
  exact append_extractLsb'_append 0#14 (0#12 ++ 1#4) rfl hq w

/-! ## Decoder and encoder -/

/-- What an entry reads is encoded as its row's pattern with the word's bits where the row's mask is 0. -/
theorem encode_of_entry (w : Word) : ∀ e ∈ decodeTable, encode (e.2 w) = e.1.pattern ||| w &&& ~~~e.1.mask := by
  simp only [decodeTable, opcodeMap, rowReaders, List.zip_cons_cons, List.forall_mem_cons, encode,
    wordC_fieldIdx, wordB_fieldByte, wordL_fieldLen, wordI_fieldN, wordK_getLsbD]
  simp [wordC, wordB, wordL, wordI, wordK, wordN, wordT]

/-- A word that decodes is the word of its operation: mask and complement together are the whole word. -/
theorem encode_of_decode {w : Word} {i : Instr} (h : decode w = .ok i) : encode i = w := by
  obtain ⟨e, he, hw, rfl⟩ := decode_eq_ok_iff.mp h
  rw [encode_of_entry w e he, ← OpRow.selects_iff.mp hw, ← BitVec.and_or_distrib_left, BitVec.or_not_self,
    BitVec.and_allOnes]

theorem row_selects_encode {e : OpRow × (Word → Instr)} (he : e ∈ decodeTable) (w : Word) :
    e.1.selects (encode (e.2 w)) = true := by
  have hp : e.1.pattern &&& e.1.mask = e.1.pattern := by
    revert e
    decide
  have hcompl : ~~~e.1.mask &&& e.1.mask = 0#32 := BitVec.not_and_self _
  rw [OpRow.selects_iff, encode_of_entry w e he, BitVec.and_or_distrib_right, hp, BitVec.and_assoc, hcompl,
    BitVec.and_zero, BitVec.or_zero]

theorem entry_reads_encode (i : Instr) : ∃ e ∈ decodeTable, e.2 (encode i) = i :=
  match i with
  | .crcClear c7 c16 =>
    have ⟨h7, h16⟩ := getLsbD_wordK c7 c16
    ⟨decodeTable[0], List.getElem_mem _, congrArg₂ Instr.crcClear h7 h16⟩
  | .crc7Feed byte => ⟨decodeTable[1], List.getElem_mem _, congrArg Instr.crc7Feed (fieldByte_wordB byte _)⟩
  | .crc16Feed byte => ⟨decodeTable[2], List.getElem_mem _, congrArg Instr.crc16Feed (fieldByte_wordB byte _)⟩
  | .sendCmdNone idx => ⟨decodeTable[3], List.getElem_mem _, congrArg Instr.sendCmdNone (fieldIdx_wordC _ idx)⟩
  | .sendCmdR1 idx => ⟨decodeTable[4], List.getElem_mem _, congrArg Instr.sendCmdR1 (fieldIdx_wordC _ idx)⟩
  | .sendCmdR1B idx => ⟨decodeTable[5], List.getElem_mem _, congrArg Instr.sendCmdR1B (fieldIdx_wordC _ idx)⟩
  | .sendCmdR2 idx => ⟨decodeTable[6], List.getElem_mem _, congrArg Instr.sendCmdR2 (fieldIdx_wordC _ idx)⟩
  | .sendCmdR3 idx => ⟨decodeTable[7], List.getElem_mem _, congrArg Instr.sendCmdR3 (fieldIdx_wordC _ idx)⟩
  | .sendCmdR7 idx => ⟨decodeTable[8], List.getElem_mem _, congrArg Instr.sendCmdR7 (fieldIdx_wordC _ idx)⟩
  | .receive => ⟨decodeTable[9], List.getElem_mem _, rfl⟩
  | .recvShort len => ⟨decodeTable[10], List.getElem_mem _, congrArg Instr.recvShort (fieldLen_wordL len)⟩
  | .transmit => ⟨decodeTable[11], List.getElem_mem _, rfl⟩
  | .transmitM => ⟨decodeTable[12], List.getElem_mem _, rfl⟩
  | .transmitMF => ⟨decodeTable[13], List.getElem_mem _, rfl⟩
  | .waitReady => ⟨decodeTable[14], List.getElem_mem _, rfl⟩
  | .select => ⟨decodeTable[15], List.getElem_mem _, rfl⟩
  | .deselect => ⟨decodeTable[16], List.getElem_mem _, rfl⟩
  | .resync => ⟨decodeTable[17], List.getElem_mem _, rfl⟩
  | .idle n => ⟨decodeTable[18], List.getElem_mem _, congrArg Instr.idle (fieldN_wordI n)⟩

theorem decode_encode (i : Instr) : decode (encode i) = .ok i := by
  obtain ⟨e, he, hi⟩ := entry_reads_encode i
  have hw := row_selects_encode he (encode i)
  rw [hi] at hw
  exact decode_eq_ok_iff.mpr ⟨e, he, hw, hi⟩

/-- Settles O1: both directions go through the one entry of the table that selects the word. -/
theorem decodeAndEncodeAreInverse : Obligations.DecodeAndEncodeAreInverse :=
  ⟨decode_encode, fun _ _ => encode_of_decode⟩

theorem decode_eq_ok_iff_encode {w : Word} {i : Instr} : decode w = .ok i ↔ encode i = w :=
  ⟨encode_of_decode, fun h => h ▸ decode_encode i⟩

/-- Settles O4: each word is the word of its operation. -/
theorem specWordsDecode : Obligations.SpecWordsDecode := by
  simp only [Obligations.SpecWordsDecode, decode_eq_ok_iff_encode]
  decide

end Sys2Proof
end

section
/-! PROOFS. The operands of a decoded operation (30_encoding.md R50), and its decode step (R52): the legality over the
rows is the legality of the decoded operation. -/

namespace Sys2Proof.Machine

/-! ## Operands (30_encoding.md R50) -/

theorem toNat_extractLsb' (start len : Nat) (w : Word) :
    (w.extractLsb' start len).toNat = w.toNat / 2 ^ start % 2 ^ len := by
  rw [BitVec.extractLsb'_toNat, Nat.shiftRight_eq_div_pow]

/-- Every SEND_CMD is in format C (30_encoding.md R49). -/
theorem encode_of_commandOf {i : Instr} {kind : RKind} {idx : BitVec 6} (h : commandOf i = some (kind, idx)) :
    ∃ rkind, encode i = wordC rkind idx := by
  cases i <;> simp [commandOf] at h <;> obtain ⟨-, rfl⟩ := h <;> exact ⟨_, rfl⟩

/-- Settles O3: the word is the word of its operation, and each format gives its field back. -/
theorem operandsAreTheirFieldsBits : Obligations.OperandsAreTheirFieldsBits := by
  intro w
  refine ⟨fun c7 c16 h => ?_, fun byte h => ?_, fun i kind idx h hi => ?_, fun len h => ?_, fun n h => ?_⟩
  · obtain ⟨h7, h16⟩ := getLsbD_wordK c7 c16
    obtain rfl := encode_of_decode h
    exact ⟨h7.symm, h16.symm⟩
  · obtain ⟨opcode, rfl⟩ : ∃ opcode, wordB byte opcode = w :=
      h.elim (fun h => ⟨_, encode_of_decode h⟩) fun h => ⟨_, encode_of_decode h⟩
    rw [← toNat_extractLsb']
    exact congrArg BitVec.toNat (fieldByte_wordB byte opcode).symm
  · obtain ⟨rkind, hk⟩ := encode_of_commandOf hi
    rw [← toNat_extractLsb', ← encode_of_decode h, hk]
    exact congrArg BitVec.toNat (fieldIdx_wordC rkind idx).symm
  · rw [← toNat_extractLsb', ← encode_of_decode h]
    exact congrArg BitVec.toNat (fieldLen_wordL len).symm
  · rw [← toNat_extractLsb', ← encode_of_decode h]
    exact congrArg BitVec.toNat (fieldN_wordI n).symm

/-! ## The decode step (30_encoding.md R52) -/

theorem any_selects_iff {w : Word} : opcodeMap.any (fun r => r.selects w) = true ↔ ∃ i, decode w = .ok i := by
  rw [List.any_eq_true]
  constructor
  · rintro ⟨r, hr, hw⟩
    obtain ⟨i, hi, -⟩ := decode_of_row hr hw
    exact ⟨i, hi⟩
  · rintro ⟨i, hi⟩
    obtain ⟨r, hr, hw, -⟩ := row_of_decode hi
    exact ⟨r, hr, hw⟩

theorem selectsRow_of_decode {w : Word} {i : Instr} (h : decode w = .ok i) (name : String) :
    selectsRow name w = (mnemonic i == name) := by
  obtain ⟨r, hr, hw, hn⟩ := row_of_decode h
  rw [hn, Bool.eq_iff_iff]
  simp only [selectsRow, List.any_eq_true, Bool.and_eq_true, beq_iff_eq]
  constructor
  · rintro ⟨r', hr', hn', hw'⟩
    rw [eq_of_selects hr hr' hw hw', hn']
  · exact fun hname => ⟨r, hr, hname, hw⟩

/-- R52's legality over the rows is the legality of the decoded operation. -/
theorem legalWord_of_decode {w : Word} {i : Instr} (h : decode w = .ok i) (count : BitVec 16) :
    legalWord w count = legalOp i count := by
  have hany := any_selects_iff.mpr ⟨i, h⟩
  have hrow := selectsRow_of_decode h
  obtain rfl := encode_of_decode h
  simp only [legalWord, legalOp, hany, hrow]
  cases i with
  | recvShort len =>
    have hlen : (encode (.recvShort len)).extractLsb' 16 10 = len := fieldLen_wordL len
    simp [mnemonic, Instr.wf, Config.shortMax, hlen]
  | idle n =>
    have hn : (encode (.idle n)).extractLsb' 16 11 = n := fieldN_wordI n
    simp [mnemonic, Instr.wf, Config.idleMax, hn]
  | _ => simp [mnemonic, Instr.wf]

theorem legalWord_of_error {w : Word} {err : DecodeError} (h : decode w = .error err) (count : BitVec 16) :
    legalWord w count = false := by
  have hany : ¬opcodeMap.any (fun r => r.selects w) = true := by
    rw [any_selects_iff]
    simp [h]
  simp [legalWord, hany]

theorem engineTurn_of_error {s : State} {err : DecodeError} (hp : s.phase = .decode)
    (h : decode s.op = .error err) : engineTurn s = .next (s.finish .illegalOp .illegal) := by
  simp [engineTurn, illegalWordTurn, hp, h]

/-- Settles O5: `exec_decode` with the legality read off the rows; `completedWith` is `finish` written out. -/
theorem decodeStepChecksLegality : Obligations.DecodeStepChecksLegality := by
  intro s hp
  cases hd : decode s.op with
  | error err =>
    rw [legalWord_of_error hd]
    exact ⟨fun _ => engineTurn_of_error hp hd, nofun⟩
  | ok i =>
    rw [legalWord_of_decode hd]
    have hexec := exec_decode i hp
    constructor
    · intro hl
      rw [hl, State.decodeTo_false] at hexec
      exact engineTurn_of_exec hd hexec
    · intro hl
      rw [hl, State.decodeTo_true] at hexec
      exact ⟨i, rfl, hexec, engineTurn_of_exec hd hexec⟩

end Sys2Proof.Machine
end

section
/-! PROOFS. The CRC generators (40_crc.md R62 to R70), both of them at once: the bit-serial register of a generator
polynomial is linear, shifts out its own leading bits, and forgets nothing. -/

namespace Sys2Proof.Machine

/-! ## The generator of any polynomial -/

/-- What the feedback bit adds to the register: the polynomial `p`, its leading term implicit, or nothing. -/
def taps {n : Nat} (p : BitVec n) (fb : Bool) : BitVec n := if fb then p else 0#n

/-- The update by one message bit, for the polynomial `p`: R62 and R66 in one. -/
def crcBit {n : Nat} (p c : BitVec n) (m : Bool) : BitVec n := c <<< 1 ^^^ taps p (m ^^ c.msb)

/-- The update by one byte, for the polynomial `p`: R63 and R67 in one. -/
def crcUpdate {n : Nat} (p c : BitVec n) (b : Byte) : BitVec n := (bitsMsbFirst b).foldl (crcBit p) c

/-- The CRC of a message, for the polynomial `p`: R65 and R69 in one. -/
def crcOf {n : Nat} (p : BitVec n) (bytes : List Byte) : BitVec n := bytes.foldl (crcUpdate p) 0#n

theorem crc7Bit_eq : crc7Bit = crcBit 0x09#7 := by
  funext c m
  simp only [crc7Bit, crcBit, taps, BitVec.msb_eq_getLsbD_last]
  split <;> simp_all

theorem crc16Bit_eq : crc16Bit = crcBit 0x1021#16 := by
  funext c m
  simp only [crc16Bit, crcBit, taps, BitVec.msb_eq_getLsbD_last]
  split <;> simp_all

theorem crc7Update_eq : crc7Update = crcUpdate 0x09#7 := by
  funext c b
  rw [crc7Update, crcUpdate, crc7Bit_eq]

theorem crc16Update_eq : crc16Update = crcUpdate 0x1021#16 := by
  funext c b
  rw [crc16Update, crcUpdate, crc16Bit_eq]

theorem crc7Of_eq : crc7Of = crcOf 0x09#7 := by
  funext bytes
  rw [crc7Of, crcOf, crc7Update_eq]

theorem crc16Of_eq : crc16Of = crcOf 0x1021#16 := by
  funext bytes
  rw [crc16Of, crcOf, crc16Update_eq]

section
variable {n : Nat} (p : BitVec n)

/-! ## Linearity (40_crc.md R70 item 2) -/

theorem taps_xor (a b : Bool) : taps p (a ^^ b) = taps p a ^^^ taps p b := by
  cases a <;> cases b <;> simp [taps]

theorem crcBit_xor (c d : BitVec n) (a b : Bool) : crcBit p (c ^^^ d) (a ^^ b) = crcBit p c a ^^^ crcBit p d b := by
  simp only [crcBit, BitVec.msb_xor, BitVec.shiftLeft_xor_distrib, taps_xor]
  ac_rfl

/-- A register that adds up over one element adds up over two messages of equal length. -/
theorem foldl_zipWith_xor {α : Type} {f : BitVec n → α → BitVec n} {add : α → α → α}
    (hf : ∀ c d x y, f (c ^^^ d) (add x y) = f c x ^^^ f d y) (xs ys : List α) (h : xs.length = ys.length)
    (c d : BitVec n) : (List.zipWith add xs ys).foldl f (c ^^^ d) = xs.foldl f c ^^^ ys.foldl f d := by
  induction xs generalizing ys c d with
  | nil => simp [List.length_eq_zero_iff.mp h.symm]
  | cons x xs ih =>
    obtain ⟨y, ys, rfl⟩ := List.exists_cons_of_length_eq_add_one h.symm
    simp only [List.zipWith_cons_cons, List.foldl_cons, hf]
    exact ih ys (Nat.succ.inj h) _ _

theorem bitsMsbFirst_xor (x y : Byte) :
    bitsMsbFirst (x ^^^ y) = List.zipWith Bool.xor (bitsMsbFirst x) (bitsMsbFirst y) := by
  simp [bitsMsbFirst]

theorem crcUpdate_xor (c d : BitVec n) (x y : Byte) :
    crcUpdate p (c ^^^ d) (x ^^^ y) = crcUpdate p c x ^^^ crcUpdate p d y := by
  rw [crcUpdate, bitsMsbFirst_xor]
  exact foldl_zipWith_xor (crcBit_xor p) (bitsMsbFirst x) (bitsMsbFirst y) rfl c d

theorem crcOf_xor (xs ys : List Byte) (h : xs.length = ys.length) :
    crcOf p (List.zipWith (· ^^^ ·) xs ys) = crcOf p xs ^^^ crcOf p ys := by
  have hsum := foldl_zipWith_xor (crcUpdate_xor p) xs ys h 0#n 0#n
  rwa [BitVec.xor_self] at hsum

/-! ## The register fed with its own leading bits (40_crc.md R70 item 3) -/

/-- The first `k` bits of the register, most significant first, with zeros after the last. -/
def leadingBits (c : BitVec n) (k : Nat) : List Bool := (List.range k).map c.getMsbD

/-- No feedback comes back when the message is what the register shifts out. -/
theorem foldl_crcBit_leadingBits (c : BitVec n) (k : Nat) : (leadingBits c k).foldl (crcBit p) c = c <<< k := by
  induction k with
  | zero => simp [leadingBits]
  | succ k ih =>
    have hmsb : (c <<< k).msb = c.getMsbD k := by simp [BitVec.msb]
    have hsplit : leadingBits c (k + 1) = leadingBits c k ++ [c.getMsbD k] := by simp [leadingBits, List.range_succ]
    simp [hsplit, ih, crcBit, hmsb, taps, BitVec.shiftLeft_add]

theorem crcUpdate_of_leadingBits {c : BitVec n} {x : Byte} (h : bitsMsbFirst x = leadingBits c 8) :
    crcUpdate p c x = c <<< 8 := by
  rw [crcUpdate, h, foldl_crcBit_leadingBits]

/-- The byte update with the register's part taken apart: the reason that a table over one byte is enough. -/
theorem crcUpdate_eq_shiftLeft_xor {c : BitVec n} {x : Byte} (h : bitsMsbFirst x = leadingBits c 8) (b : Byte) :
    crcUpdate p c b = c <<< 8 ^^^ crcUpdate p 0#n (x ^^^ b) := by
  have hcancel : x ^^^ (x ^^^ b) = b := by rw [← BitVec.xor_assoc, BitVec.xor_self, BitVec.zero_xor]
  calc crcUpdate p c b
      = crcUpdate p (c ^^^ 0#n) (x ^^^ (x ^^^ b)) := by rw [BitVec.xor_zero, hcancel]
    _ = crcUpdate p c x ^^^ crcUpdate p 0#n (x ^^^ b) := crcUpdate_xor ..
    _ = c <<< 8 ^^^ crcUpdate p 0#n (x ^^^ b) := by rw [crcUpdate_of_leadingBits p h]

/-! ## No step loses information (40_crc.md R70 item 5) -/

variable {p} (hp : p.getLsbD 0 = true)
include hp

/-- The lowest bit of the new register is the feedback bit, since the polynomial has the term 1. -/
theorem getLsbD_zero_crcBit (c : BitVec n) (m : Bool) : (crcBit p c m).getLsbD 0 = (m ^^ c.msb) := by
  cases hfb : m ^^ c.msb <;> simp [crcBit, taps, hfb, hp]

theorem crcBit_injective (m : Bool) : Function.Injective (crcBit p · m) := by
  intro c d h
  have hmsb : c.msb = d.msb := by
    have hlow := congrArg (·.getLsbD 0) h
    simpa [getLsbD_zero_crcBit hp] using hlow
  have hrest : c <<< 1 = d <<< 1 := by simpa [crcBit, hmsb] using h
  refine BitVec.eq_of_getMsbD_eq fun i hi => ?_
  cases i with
  | zero => exact hmsb
  | succ i => simpa [hi] using congrArg (·.getMsbD i) hrest

end

theorem foldl_injective {σ α : Type} {f : σ → α → σ} (hf : ∀ x, Function.Injective (f · x)) (xs : List α) :
    Function.Injective (xs.foldl f) := by
  induction xs with
  | nil => exact fun _ _ h => h
  | cons x xs ih => exact ih.comp (hf x)

theorem crcUpdate_injective {n : Nat} {p : BitVec n} (hp : p.getLsbD 0 = true) (b : Byte) :
    Function.Injective (crcUpdate p · b) :=
  foldl_injective (crcBit_injective hp) (bitsMsbFirst b)

/-- An error pattern that shows in the update of a cleared register shows in the CRC of every message. -/
theorem crcOf_ne_of_error {n : Nat} {p : BitVec n} (hp : p.getLsbD 0 = true) {e : Byte} (he : crcUpdate p 0#n e ≠ 0#n)
    (front back : List Byte) (b : Byte) : crcOf p (front ++ (b ^^^ e) :: back) ≠ crcOf p (front ++ b :: back) := by
  intro h
  simp only [crcOf, List.foldl_append, List.foldl_cons] at h
  have hbyte := foldl_injective (crcUpdate_injective hp) back h
  have hsum := crcUpdate_xor p (front.foldl (crcUpdate p) 0#n) 0#n b e
  rw [BitVec.xor_zero, hbyte] at hsum
  exact he ((BitVec.xor_right_inj _).mp (hsum.symm.trans BitVec.xor_zero.symm))

/-! ## CRC7 and CRC16 -/

/-- The CRCs of the single bytes 0 to 255, for the polynomial `p`: the table that R64 and R68 describe. -/
def byteTable {n : Nat} (p : BitVec n) : List Nat :=
  (List.range 256).map fun i => (crcUpdate p 0#n (BitVec.ofNat 8 i)).toNat

theorem ofNat_byteTable {n : Nat} (p : BitVec n) (i : Byte) :
    BitVec.ofNat n ((byteTable p).getD i.toNat 0) = crcUpdate p 0#n i := by
  simp [byteTable, List.getD_eq_getElem?_getD, i.isLt]

theorem t7Entries_eq : t7Entries = byteTable 0x09#7 := by decide +kernel

theorem t16Entries_eq : t16Entries = byteTable 0x1021#16 := by decide +kernel

/-- T7 is the update of a cleared register (40_crc.md R64). -/
theorem t7_eq (i : Byte) : t7 i = crcUpdate 0x09#7 0#7 i := by
  rw [t7, t7Entries_eq, ofNat_byteTable]

/-- T16 is the update of a cleared register (40_crc.md R68). -/
theorem t16_eq (i : Byte) : t16 i = crcUpdate 0x1021#16 0#16 i := by
  rw [t16, t16Entries_eq, ofNat_byteTable]

theorem bitsMsbFirst_crc7 (c : BitVec 7) : bitsMsbFirst (c.setWidth 8 <<< 1) = leadingBits c 8 := by
  simp [bitsMsbFirst, leadingBits, List.range_succ, BitVec.getMsbD]

theorem bitsMsbFirst_crc16_high (c : BitVec 16) : bitsMsbFirst (c.extractLsb' 8 8) = leadingBits c 8 := by
  simp [bitsMsbFirst, leadingBits, List.range_succ, BitVec.getMsbD]

/-- Settles O6: the register, shifted left by one, is the byte it shifts out, and the register is shifted out whole. -/
theorem crc7TableAgreesWithBitSerial : Obligations.Crc7TableAgreesWithBitSerial := by
  intro c b
  have hout : c <<< 8 = 0#7 := BitVec.shiftLeft_eq_zero (by decide)
  rw [crc7TableUpdate, t7_eq, crc7Update_eq, crcUpdate_eq_shiftLeft_xor _ (bitsMsbFirst_crc7 c), hout, BitVec.zero_xor]

/-- Settles O7: the register's high byte is the byte it shifts out. -/
theorem crc16TableAgreesWithBitSerial : Obligations.Crc16TableAgreesWithBitSerial := by
  intro c b
  rw [crc16TableUpdate, t16_eq, crc16Update_eq, crcUpdate_eq_shiftLeft_xor _ (bitsMsbFirst_crc16_high c)]

/-- Settles O8: `crcOf_xor` for the two polynomials. -/
theorem crcIsLinear : Obligations.CrcIsLinear := by
  intro xs ys h
  rw [crc7Of_eq, crc16Of_eq]
  exact ⟨crcOf_xor _ xs ys h, crcOf_xor _ xs ys h⟩

/-- Settles O9: a CRC fed after its message is the register fed with all its own bits. -/
theorem crcResidueIsZero : Obligations.CrcResidueIsZero := by
  intro d
  rw [crc7Of_eq, crc16Of_eq, crc7Bit_eq]
  generalize hc7 : crcOf 0x09#7 d = c7
  generalize hc16 : crcOf 0x1021#16 d = c16
  constructor
  · have hbits : bitsMsbFirst (c16.extractLsb' 8 8) ++ bitsMsbFirst (c16.extractLsb' 0 8) = leadingBits c16 16 := by
      simp [bitsMsbFirst, leadingBits, List.range_succ, BitVec.getMsbD]
    calc crcOf 0x1021#16 (d ++ [c16.extractLsb' 8 8, c16.extractLsb' 0 8])
        = (leadingBits c16 16).foldl (crcBit 0x1021#16) c16 := by
          rw [← hbits, ← hc16]
          simp only [crcOf, crcUpdate, List.foldl_append, List.foldl_cons, List.foldl_nil]
      _ = 0#16 := by rw [foldl_crcBit_leadingBits]; exact BitVec.shiftLeft_eq_zero le_rfl
  · have hbits : [6, 5, 4, 3, 2, 1, 0].map c7.getLsbD = leadingBits c7 7 := by
      simp [leadingBits, List.range_succ, BitVec.getMsbD]
    rw [hbits, foldl_crcBit_leadingBits]
    exact BitVec.shiftLeft_eq_zero le_rfl

/-- Settles O10: the error alone leaves a cleared register at something else than 0. -/
theorem singleBitErrorChangesTheCrc : Obligations.SingleBitErrorChangesTheCrc := by
  intro front back b j hj
  rw [crc7Of_eq, crc16Of_eq]
  have h7 : ∀ j < 8, crcUpdate 0x09#7 0#7 (1#8 <<< j) ≠ 0#7 := by decide
  have h16 : ∀ j < 8, crcUpdate 0x1021#16 0#16 (1#8 <<< j) ≠ 0#16 := by decide
  exact ⟨crcOf_ne_of_error rfl (h7 j hj) front back b, crcOf_ne_of_error rfl (h16 j hj) front back b⟩

end Sys2Proof.Machine
end

section
/-! PROOFS. The CRC operations (40_crc.md R71 to R73): their update step and the three steps of a whole run. -/

namespace Sys2Proof.Machine

theorem crcOp_update {update : State → State} {s : State} (h : s.phase = .update) :
    crcOp update s = .next ((update s).setPhase finishOk) := by
  simp [crcOp, runPhase, h]

/-- The update step, and the whole run: "Each takes three Engine steps: decode, update, `Finish`." (40_crc.md,
section 4) -/
theorem exec_and_execRun_of_crcOp {i : Instr} {update : State → State} (hi : exec i = crcOp update)
    (hupdate : ∀ s p, update (s.setPhase p) = (update s).setPhase p) (s : State) :
    (s.phase = .update → exec i s = .next ((update s).setPhase finishOk)) ∧
    (s.phase = .decode → execRun i 3 s = .next ((update s).completedWith .noError .ok)) := by
  rw [hi]
  refine ⟨crcOp_update, fun hp => ?_⟩
  have hdecode : crcOp update s = .next (s.setPhase .update) := runPhase_decode hp
  have hact : crcOp update (s.setPhase .update) = .next ((update s).setPhase finishOk) := by
    rw [crcOp_update rfl, hupdate]
    rfl
  have hfinish : crcOp update ((update s).setPhase finishOk) = .next ((update s).completedWith .noError .ok) :=
    runPhase_finish rfl
  simp only [execRun, hi, hdecode, hact, hfinish]

theorem exec_crcClear (c7 c16 : Bool) :
    exec (.crcClear c7 c16) =
      crcOp fun s => { s with crc7 := if c7 then 0#7 else s.crc7, crc16 := if c16 then 0#16 else s.crc16 } := rfl

theorem exec_crc7Feed (b : Byte) :
    exec (.crc7Feed b) = crcOp fun s => { s with crc7 := crc7Update s.crc7 b } := rfl

theorem exec_crc16Feed (b : Byte) :
    exec (.crc16Feed b) = crcOp fun s => { s with crc16 := crc16Update s.crc16 b } := rfl

/-- Settles O11: each word selects its row, and its operation is `crcOp` with the update of its register. -/
theorem crcOperationsUpdateTheirRegister : Obligations.CrcOperationsUpdateTheirRegister := by
  intro s w
  refine ⟨fun hw => ⟨?_, exec_and_execRun_of_crcOp (exec_crcClear _ _) (fun _ _ => rfl) s⟩,
    fun hw => ⟨?_, exec_and_execRun_of_crcOp (exec_crc7Feed _) (fun _ _ => rfl) s⟩,
    fun hw => ⟨?_, exec_and_execRun_of_crcOp (exec_crc16Feed _) (fun _ _ => rfl) s⟩⟩
  · exact decode_eq_ok_iff.mpr ⟨decodeTable[0], List.getElem_mem _, OpRow.selects_iff.mpr hw, rfl⟩
  · exact decode_eq_ok_iff.mpr ⟨decodeTable[1], List.getElem_mem _, OpRow.selects_iff.mpr hw, rfl⟩
  · exact decode_eq_ok_iff.mpr ⟨decodeTable[2], List.getElem_mem _, OpRow.selects_iff.mpr hw, rfl⟩

end Sys2Proof.Machine
end

section
/-! PROOFS. The single actions of SEND_CMD (41_command.md R74 to R85): what `exec` answers at each position of CmdCore,
and what every step of it leaves unchanged. -/

namespace Sys2Proof.Machine

/-! ## The R1 classes (41_command.md R78) -/

/-- Settles O14: the first condition of `classify` that applies decides, and the mask of the last clause covers the bits
of every condition. -/
theorem r1ClassificationHasItsPriority : Obligations.R1ClassificationHasItsPriority := by
  intro r
  simp only [classifyR1, Bool.or_eq_true]
  refine ⟨fun h3 => if_pos h3, fun h3 h => ?_, fun h3 h2 h4 h => ?_, fun h => ?_⟩
  · rw [if_neg (by simp only [h3, not_false_eq_true, reduceCtorEq]), if_pos h]
  · simp only [h3, h2, h4, h, reduceCtorEq, or_self, if_true, if_false]
  · have hbit : ∀ j, (0x7C#8).getLsbD j = true → r.getLsbD j = false := by
      intro j hj
      have hand : (r &&& 0x7C#8).getLsbD j = (0#8).getLsbD j := by rw [h]
      rwa [BitVec.getLsbD_and, hj, Bool.and_true, BitVec.getLsbD_zero] at hand
    simp only [hbit 2 rfl, hbit 3 rfl, hbit 4 rfl, hbit 5 rfl, hbit 6 rfl, reduceCtorEq, or_self, if_false]

/-! ## One action of CmdCore -/

/-- At a position of CmdCore a SEND_CMD takes CmdCore's action (41_command.md R85). -/
theorem exec_command {i : Instr} {kind : RKind} {idx : BitVec 6} (hi : commandOf i = some (kind, idx)) {s : State}
    {p : CmdPos} (hp : s.phase = .command p) : exec i s = .next (sendCmdNext (cmdStep idx s.arg kind p s)) := by
  rw [exec_of_commandOf hi]
  simp [sendCmdBody, runPhase, hp]

section
variable {idx : BitVec 6} {arg : Word} {kind : RKind} {k : Nat} {s : State}

/-- A call starts with its first frame byte, once `attempt` and ATTEMPTS are cleared (41_command.md R84). -/
theorem cmdStep_start :
    cmdStep idx arg kind .start s =
      cmdStep idx arg kind (.frame 0) { s with attempt := 0#4, status := { s.status with attempts := 0#4 } } := rfl

theorem cmdStep_frame_of_lt (hk : k < 5) :
    cmdStep idx arg kind (.frame k) s = (sendFrameByte idx arg k s, .goOn (.frame (k + 1))) := if_pos hk

/-- The last frame byte of a command with a response (41_command.md R74, R75). -/
theorem cmdStep_frame_last (hkind : kind ≠ .noResp) :
    cmdStep idx arg kind (.frame 5) s =
      ({ s.exchange (frameLastByte s.crc7) with respx := 0#32 }, .goOn (if idx = 12#6 then .stuff else .poll 0)) :=
  if_neg hkind

theorem isR1_of_bit {rx : Byte} {v : Bool} (h : rx.getLsbD 7 = v) : isR1 rx = !v := by rw [isR1, h]

/-- A stray byte before the last poll byte (41_command.md R76). -/
theorem cmdStep_poll_stray (h : s.answer.getLsbD 7 = true) (hk : k < 7) :
    cmdStep idx arg kind (.poll k) s = (s.exchange 0xFF#8, .goOn (.poll (k + 1))) := by
  have hk' : k + 1 < 8 := by omega
  simp [cmdStep, pollStep, isR1_of_bit h, hk']

/-- The last poll byte when it is no R1 either (41_command.md R79, R82). -/
theorem cmdStep_poll_silent (h : s.answer.getLsbD 7 = true) :
    cmdStep idx arg kind (.poll 7) s = attemptEnd .timeout true { s.exchange 0xFF#8 with resp := s.answer } := by
  simp [cmdStep, pollStep, isR1_of_bit h]

/-- An R1 (41_command.md R76, R77). -/
theorem cmdStep_poll_r1 (h : s.answer.getLsbD 7 = false) :
    cmdStep idx arg kind (.poll k) s = r1Found idx kind s.answer (s.exchange 0xFF#8) := by
  simp [cmdStep, pollStep, isR1_of_bit h]

/-- An R1 of a kind with tail bytes is followed by the first of them (41_command.md R79). -/
theorem r1Found_tail (hkind : kind = .r2 ∨ kind = .r3 ∨ kind = .r7) (rx : Byte) :
    r1Found idx kind rx s =
      ({ s with resp := maskR1 idx rx }, .goOn (.tail 0 (classifyR1 (maskR1 idx rx)))) := by
  obtain rfl | rfl | rfl := hkind <;> rfl

end

/-- Settles O15: the poll byte is stray, silent or an R1, and an R1 is followed by what its kind adds. -/
theorem pollByteDecidesTheAttempt : Obligations.PollByteDecidesTheAttempt := by
  intro i kind idx k s hi hkind hp hk rx s₁ r1 retried
  rw [exec_command hi hp]
  refine ⟨fun h hlt => ?_, fun h hlast hlt => ?_, fun h hlast hle => ?_, fun h hb => ?_, fun h ht => ?_,
    fun h h1 hc hlt => ?_, fun h h1 hn => ?_⟩
  · rw [cmdStep_poll_stray h hlt]
    rfl
  · subst hlast
    rw [cmdStep_poll_silent h, sendCmdNext_attemptEnd, if_pos ⟨rfl, hlt⟩]
  · subst hlast
    rw [cmdStep_poll_silent h, sendCmdNext_attemptEnd, if_neg (fun hr => Nat.not_lt.mpr hle hr.2)]
    rfl
  · subst hb
    rw [cmdStep_poll_r1 h]
    rfl
  · rw [cmdStep_poll_r1 h, r1Found_tail ht]
    rfl
  · subst h1
    rw [cmdStep_poll_r1 h, r1Found, sendCmdNext_attemptEnd, if_pos ⟨by rw [beq_iff_eq]; exact hc, hlt⟩]
    rfl
  · subst h1
    rw [cmdStep_poll_r1 h, r1Found, sendCmdNext_attemptEnd, if_neg (by rw [beq_iff_eq]; exact hn)]
    rfl

/-- Settles O16: the last tail byte and the busy wait's exchange are ends of an attempt (`sendCmdNext_attemptEnd`). -/
theorem tailAndBusyWaitEndTheAttempt : Obligations.TailAndBusyWaitEndTheAttempt := by
  intro i kind idx s hi rx ended
  have hended : ∀ cls retryable (t : State), t.attempt = s.attempt → t.ctrl = s.ctrl → t.status = s.status →
      sendCmdNext (attemptEnd cls retryable t) = ended cls retryable t := by
    intro cls retryable t ha hc hs
    rw [sendCmdNext_attemptEnd, ha, hc, hs]
    by_cases h : retryable = true ∧ s.attempt.toNat < s.ctrl.cmdRetry.toNat
    · simp only [ended, if_pos h, hc]
    · simp only [ended, if_neg h, ha, hc, hs]
  refine ⟨?_, ?_, ?_⟩
  · rintro cls rfl hp
    rw [exec_command hi hp]
    exact congrArg _ (hended _ _ _ rfl rfl rfl)
  · intro k cls hk hlt hp t
    have hstep : cmdStep idx s.arg kind (.tail k cls) s =
        if k + 1 < 4 then (t, .goOn (.tail (k + 1) cls)) else attemptEnd cls (cls == .crc) t := by
      obtain rfl | rfl := hk <;> rfl
    rw [exec_command hi hp, hstep]
    by_cases h3 : k < 3
    · rw [if_pos h3, if_pos (Nat.succ_lt_succ h3)]
      rfl
    · rw [if_neg h3, if_neg (by omega), hended _ _ t rfl rfl rfl]
  · intro wp cls hk hp t0 t
    subst hk
    have hstep : cmdStep idx s.arg .r1b (.busy wp cls) s =
        if rx = 0xFF#8 then attemptEnd cls (cls == .crc) t
        else if s.toutBusy.toNat ≤ (s.ticks - t0).toNat then attemptEnd .timeout false t
        else (t, .goOn (.busy .again cls)) := busyStep_eq wp cls s
    rw [exec_command hi hp, hstep]
    split
    · rw [hended _ _ t rfl rfl rfl]
    · split
      · rw [hended _ _ t rfl rfl rfl]
      · rfl

/-! ## What a step leaves unchanged (41_command.md R85) -/

/-- The next state of a SEND_CMD step is that of an action inside CmdCore's frame, moved to a position or completed. -/
theorem exec_command_frame {i : Instr} {kind : RKind} {idx : BitVec 6} {s t : State}
    (hi : commandOf i = some (kind, idx)) (h : exec i s = .next t) :
    ∃ u, CmdFrame s u ∧ ((∃ p, t = u.setPhase p) ∨ ∃ e c, t = u.finish e c) := by
  rw [exec_of_commandOf hi] at h
  obtain ⟨-, rfl⟩ | ⟨-, rfl⟩ | ⟨e, c, -, rfl⟩ | ⟨-, -, -, h⟩ := runPhase_cases h
  · exact ⟨t, .refl t, .inl ⟨t.phase, rfl⟩⟩
  · exact ⟨s, .refl s, .inl ⟨_, rfl⟩⟩
  · exact ⟨s, .refl s, .inr ⟨e, c, rfl⟩⟩
  · split at h <;> cases h
    next p _ =>
      have hframe := cmdStep_frame idx s.arg kind p s
      generalize cmdStep idx s.arg kind p s = r at hframe
      obtain ⟨u, q | cls⟩ := r <;> exact ⟨u, hframe, .inl ⟨_, rfl⟩⟩

/-- A frame byte of a command without a response keeps RESP, RESPX and `cs` (41_command.md R86). -/
theorem frameStep_noResp (idx : BitVec 6) (arg : Word) (k : Nat) (s : State) :
    let u := (frameStep idx arg .noResp k s).1
    u.resp = s.resp ∧ u.respx = s.respx ∧ u.cs = s.cs := by
  unfold frameStep
  split <;> exact ⟨rfl, rfl, rfl⟩

/-- CmdCore without a response has no position but its frame bytes (41_command.md R84, R86). -/
theorem cmdStep_noResp {idx : BitVec 6} {arg : Word} {p : CmdPos} {s : State} (hf : cmdFits .noResp idx p s = true) :
    let u := (cmdStep idx arg .noResp p s).1
    u.resp = s.resp ∧ u.respx = s.respx ∧ u.cs = s.cs := by
  cases p with
  | start => exact frameStep_noResp ..
  | frame k => exact frameStep_noResp ..
  | stuff | poll | tail | busy | resync => simp [cmdFits, tailBytes] at hf

theorem exec_sendCmdNone_keeps {idx : BitVec 6} {s t : State} (hinv : s.inv = true)
    (hd : decode s.op = .ok (.sendCmdNone idx)) (h : exec (.sendCmdNone idx) s = .next t) :
    t.resp = s.resp ∧ t.respx = s.respx ∧ t.cs = s.cs := by
  rw [exec_of_commandOf (kind := .noResp) (idx := idx) rfl] at h
  obtain ⟨-, rfl⟩ | ⟨-, rfl⟩ | ⟨e, c, -, rfl⟩ | ⟨hidle, hdec, -, h⟩ := runPhase_cases h
  · exact ⟨rfl, rfl, rfl⟩
  · exact ⟨rfl, rfl, rfl⟩
  · exact ⟨rfl, rfl, rfl⟩
  · obtain ⟨-, -, i, hi, -, hfits⟩ := (State.inv_of_running hidle hdec).mp hinv
    obtain rfl : Instr.sendCmdNone idx = i := Except.ok.inj (hd.symm.trans hi)
    split at h <;> cases h
    next p hp =>
      rw [phaseFits_command rfl hp, Bool.and_eq_true] at hfits
      have hkeep := cmdStep_noResp (arg := s.arg) hfits.1
      generalize cmdStep idx s.arg .noResp p s = r at hkeep
      obtain ⟨u, q | cls⟩ := r <;> exact hkeep

/-- Settles O20: the frame of CmdCore's actions, and for NONE the frame bytes alone. -/
theorem sendCmdFrame : Obligations.SendCmdFrame := by
  intro i kind idx s t hi h
  obtain ⟨u, hu, ht⟩ := exec_command_frame hi h
  have hnone : kind = .noResp → s.inv = true → decode s.op = .ok i →
      t.resp = s.resp ∧ t.respx = s.respx ∧ t.cs = s.cs := by
    rintro rfl hinv hd
    obtain rfl : i = .sendCmdNone idx := by cases i <;> simp_all [commandOf]
    exact exec_sendCmdNone_keeps hinv hd h
  obtain ⟨p, rfl⟩ | ⟨e, c, rfl⟩ := ht
  all_goals exact ⟨hu.addr, hu.xfer, hu.dtoken, hu.crc16, hu.crc16Rx, hu.derr, hu.retryable, hu.needsCheck, hu.stopped,
    State.byteAt_congr hu.mem, hnone⟩

end Sys2Proof.Machine
end

section
/-! PROOFS. Whole runs of SEND_CMD (41_command.md R74 to R91). A run of CmdCore is a chain of its actions, put together
from its parts: the frame, the poll, the tail, the busy wait and the resync. -/

namespace Sys2Proof.Machine

/-! ## Runs of an operation -/

theorem execRun_succ {i : Instr} {s t : State} (h : exec i s = .next t) (n : Nat) :
    execRun i (n + 1) s = execRun i n t := by
  rw [execRun, h]

theorem execRun_add {i : Instr} {m : Nat} {s t : State} (h : execRun i m s = .next t) (n : Nat) :
    execRun i (m + n) s = execRun i n t := by
  induction m generalizing s with
  | zero =>
    cases h
    rw [Nat.zero_add]
  | succ m ih =>
    rw [execRun] at h
    split at h
    next s' he => rw [Nat.succ_add, execRun_succ he, ih h]
    all_goals cases h

/-! ## Exchanges one after another (20_memory.md R39) -/

@[simp] theorem State.afterExchanges_nil (s : State) : s.afterExchanges [] = s := rfl

/-- The card's answers depend on its coming answers and its count alone. -/
theorem State.answers_congr {s t : State} (hc : t.card = s.card) (hd : t.draws = s.draws) (n : Nat) :
    t.answers n = s.answers n := by
  induction n generalizing s t with
  | zero => rfl
  | succ n ih =>
    rw [State.answers, State.answers, State.answer_congr hc hd]
    exact congrArg _ (ih (by simp [hc]) (by simp [hd]))

theorem State.afterExchanges_cons (b : Byte) (tx : List Byte) (s : State) :
    s.afterExchanges (b :: tx) = (s.exchange b).afterExchanges tx := by
  have htail : ({ s with card := s.card.tail, draws := s.draws + 1 } : State).answers tx.length =
      (s.exchange b).answers tx.length := State.answers_congr (by rfl) (by rfl) _
  have hwire : xchgEvents s.cs ((b :: tx).zip (s.answers (tx.length + 1))) ++ s.wire =
      xchgEvents s.cs (tx.zip ((s.exchange b).answers tx.length)) ++ (s.exchange b).wire := by
    simp [State.answers, htail, xchgEvents]
  have hcard : s.card.drop (tx.length + 1) = s.card.tail.drop tx.length := by simp
  have hdraws : s.draws + (tx.length + 1) = s.draws + 1 + tx.length := by omega
  rw [State.afterExchanges, List.length_cons, hwire, hcard, hdraws]
  rfl

theorem State.afterExchanges_singleton (b : Byte) (s : State) : s.afterExchanges [b] = s.exchange b :=
  State.afterExchanges_cons b [] s

theorem State.afterExchanges_append (tx tx' : List Byte) (s : State) :
    s.afterExchanges (tx ++ tx') = (s.afterExchanges tx).afterExchanges tx' := by
  induction tx generalizing s with
  | nil => rfl
  | cons b tx ih => rw [List.cons_append, State.afterExchanges_cons, State.afterExchanges_cons, ih]

theorem State.card_afterExchanges {s : State} {tx taken rest : List Byte} (hc : s.card = taken ++ rest)
    (hlen : taken.length = tx.length) : (s.afterExchanges tx).card = rest := by
  rw [State.afterExchanges, hc, List.drop_left' hlen]

/-! ## The registers of CmdCore (41_command.md R84) -/

/-- What CmdCore writes besides the wire; `attempt` stands for ATTEMPTS too. -/
structure CmdRegs where
  crc7 : BitVec 7
  resp : Byte
  respx : Word
  t0 : Word
  attempt : BitVec 4

/-- The state with these registers. -/
def State.withCmd (g : CmdRegs) (s : State) : State :=
  { s with
    crc7 := g.crc7, resp := g.resp, respx := g.respx, t0 := g.t0, attempt := g.attempt
    status := { s.status with attempts := g.attempt } }

/-- The registers once `attempt` and ATTEMPTS are cleared (41_command.md R84). -/
def State.cmdCleared (s : State) : CmdRegs := ⟨s.crc7, s.resp, s.respx, s.t0, 0#4⟩

section
variable (g : CmdRegs) (s : State)

@[simp] theorem State.withCmd_ctrl : (s.withCmd g).ctrl = s.ctrl := rfl
@[simp] theorem State.withCmd_card : (s.withCmd g).card = s.card := rfl
@[simp] theorem State.withCmd_ticks : (s.withCmd g).ticks = s.ticks := rfl
@[simp] theorem State.withCmd_toutBusy : (s.withCmd g).toutBusy = s.toutBusy := rfl
@[simp] theorem State.withCmd_attempt : (s.withCmd g).attempt = g.attempt := rfl
@[simp] theorem State.withCmd_respx : (s.withCmd g).respx = g.respx := rfl
@[simp] theorem State.withCmd_answer : (s.withCmd g).answer = s.answer := rfl
@[simp] theorem State.withCmd_exchange (b : Byte) : (s.withCmd g).exchange b = (s.exchange b).withCmd g := rfl

@[simp] theorem State.withCmd_afterExchanges (tx : List Byte) :
    (s.withCmd g).afterExchanges tx = (s.afterExchanges tx).withCmd g := by
  induction tx generalizing s with
  | nil => rfl
  | cons b tx ih => rw [State.afterExchanges_cons, State.afterExchanges_cons, State.withCmd_exchange, ih]

end

/-! ## Runs of CmdCore -/

/-- `n` actions of CmdCore(idx, arg, kind) lead from where `a` goes on to `b`. -/
inductive CmdRun (idx : BitVec 6) (arg : Word) (kind : RKind) : Nat → State × CmdNext → State × CmdNext → Prop
  | refl (a : State × CmdNext) : CmdRun idx arg kind 0 a a
  | step {n : Nat} {p : CmdPos} {s : State} {b : State × CmdNext}
      (h : CmdRun idx arg kind n (cmdStep idx arg kind p s) b) : CmdRun idx arg kind (n + 1) (s, .goOn p) b

section
variable {idx : BitVec 6} {arg : Word} {kind : RKind} {s : State} {g : CmdRegs} {cls : CompletionClass}
  {rest : List Byte}

theorem CmdRun.trans {m n : Nat} {a b c : State × CmdNext} (h : CmdRun idx arg kind m a b)
    (h' : CmdRun idx arg kind n b c) : CmdRun idx arg kind (m + n) a c := by
  induction h with
  | refl => rwa [Nat.zero_add]
  | step _ ih =>
    rw [Nat.succ_add]
    exact .step (ih h')

/-- One action, by its equation. -/
theorem CmdRun.of_cmdStep {p : CmdPos} {b : State × CmdNext} (h : cmdStep idx arg kind p s = b) :
    CmdRun idx arg kind 1 (s, .goOn p) b :=
  .step (h ▸ .refl _)

/-- SEND_CMD at the position where CmdCore goes on takes CmdCore's action: no action reads `phase`. -/
theorem exec_sendCmdNext_goOn {i : Instr} (hi : commandOf i = some (kind, idx)) (p : CmdPos) (s : State) :
    exec i (sendCmdNext (s, .goOn p)) = .next (sendCmdNext (cmdStep idx s.arg kind p s)) := by
  have hmoved : cmdStep idx s.arg kind p (s.setPhase (.command p)) =
      relocatedCmd s.arg (.command p) (cmdStep idx s.arg kind p s) := cmdStep_relocated idx s.arg kind p s.arg _ s
  have harg := (cmdStep_frame idx s.arg kind p s).arg
  refine (exec_command hi rfl).trans (congrArg _ ?_)
  rw [sendCmdNext, State.setPhase_arg, hmoved]
  generalize cmdStep idx s.arg kind p s = r at harg
  rw [← harg]
  obtain ⟨u, q | cls⟩ := r <;> rfl

/-- A run of CmdCore is a run of SEND_CMD (41_command.md R85). -/
theorem CmdRun.execRun_eq {i : Instr} (hi : commandOf i = some (kind, idx)) {n : Nat} {a b : State × CmdNext}
    (h : CmdRun idx arg kind n a b) (harg : a.1.arg = arg) :
    execRun i n (sendCmdNext a) = .next (sendCmdNext b) := by
  induction h with
  | refl => rfl
  | @step n p s b _ ih =>
    subst harg
    rw [execRun_succ (exec_sendCmdNext_goOn hi p s), ih (cmdStep_frame ..).arg]

/-- The same from a state at a position of CmdCore. -/
theorem CmdRun.execRun_of_phase {i : Instr} (hi : commandOf i = some (kind, idx)) {n : Nat} {p : CmdPos}
    {b : State × CmdNext} (hp : s.phase = .command p) (h : CmdRun idx s.arg kind n (s, .goOn p) b) :
    execRun i n s = .next (sendCmdNext b) := by
  have hs : sendCmdNext (s, .goOn p) = s := by rw [sendCmdNext, ← hp]; rfl
  rw [← hs]
  exact h.execRun_eq hi rfl

/-- A whole SEND_CMD: decode, CmdCore and `Finish` (41_command.md R85). -/
theorem CmdRun.execRun_of_decode {i : Instr} (hi : commandOf i = some (kind, idx)) {n : Nat} {t : State}
    (hp : s.phase = .decode) (h : CmdRun idx s.arg kind n (s, .goOn .start) (t, .done cls)) :
    execRun i (n + 2) s =
      .next (t.completedWith (if cls = .ok then .noError else .onDrive) cls) := by
  have hdecode : exec i s = .next (sendCmdNext (s, .goOn .start)) := by
    rw [exec_of_commandOf hi]
    exact runPhase_decode hp
  have hfinish : exec i (sendCmdNext (t, .done cls)) =
      .next (t.completedWith (if cls = .ok then .noError else .onDrive) cls) := by
    rw [exec_of_commandOf hi]
    by_cases hok : cls = .ok
    · subst hok
      exact runPhase_finish rfl
    · refine (runPhase_finish (e := .onDrive) (c := cls) (if_neg hok)).trans ?_
      rw [if_neg hok]
      rfl
  rw [execRun_succ hdecode, execRun_add (h.execRun_eq hi rfl), execRun_succ hfinish, execRun]

/-! ## The parts of an attempt -/

/-- A run of a call is one of its first attempt, from cleared retry counts (41_command.md R84). -/
theorem CmdRun.of_start {n : Nat} {b : State × CmdNext}
    (h : CmdRun idx arg kind (n + 1) (s.withCmd s.cmdCleared, .goOn (.frame 0)) b) :
    CmdRun idx arg kind (n + 1) (s, .goOn .start) b := by
  cases h with
  | step h => exact .step h

theorem length_frameBytes : (frameBytes idx arg).length = 6 := rfl

theorem take_succ_frameBytes {k : Nat} (hk : k < 5) :
    (frameBytes idx arg).take (k + 1) = (frameBytes idx arg).take k ++ [frameByte idx arg k] := by
  interval_cases k <;> rfl

/-- The first frame bytes, each taken into the CRC7 (41_command.md R74). -/
theorem CmdRun.frameHead {k : Nat} (hk : k < 5) :
    CmdRun idx arg kind (k + 1) (s, .goOn (.frame 0))
      ({ s.afterExchanges ((frameBytes idx arg).take (k + 1)) with
          crc7 := crc7Of ((frameBytes idx arg).take (k + 1)) },
        .goOn (.frame (k + 1))) := by
  induction k with
  | zero =>
    refine .of_cmdStep ((cmdStep_frame_of_lt hk).trans ?_)
    rw [take_succ_frameBytes hk, List.take_zero, List.nil_append, State.afterExchanges_singleton]
    rfl
  | succ k ih =>
    refine (ih (Nat.lt_of_succ_lt hk)).trans (.of_cmdStep ((cmdStep_frame_of_lt hk).trans ?_))
    rw [take_succ_frameBytes hk, State.afterExchanges_append, State.afterExchanges_singleton, crc7Of, crc7Of,
      List.foldl_append, sendFrameByte, if_neg (Nat.succ_ne_zero k)]
    rfl

/-- The last frame byte carries the CRC7 of the first five (30_encoding.md R55). -/
theorem State.afterExchanges_frameBytes (idx : BitVec 6) (arg : Word) (s : State) :
    s.afterExchanges (frameBytes idx arg) =
      (s.afterExchanges ((frameBytes idx arg).take 5)).exchange
        (frameLastByte (crc7Of ((frameBytes idx arg).take 5))) := by
  have hlast : frameBytes idx arg =
      (frameBytes idx arg).take 5 ++ [frameLastByte (crc7Of ((frameBytes idx arg).take 5))] := rfl
  conv_lhs => rw [hlast, State.afterExchanges_append, State.afterExchanges_singleton]

/-- The frame of a command without a response (41_command.md R86). -/
theorem CmdRun.frame_noResp :
    CmdRun idx arg .noResp 6 (s, .goOn (.frame 0))
      ({ s.afterExchanges (frameBytes idx arg) with crc7 := crc7Of ((frameBytes idx arg).take 5) }, .done .ok) := by
  rw [State.afterExchanges_frameBytes]
  exact (CmdRun.frameHead (by decide)).trans (.of_cmdStep rfl)

/-- The frame of a command with a response (41_command.md R74, R84). -/
theorem CmdRun.frame (hkind : kind ≠ .noResp) :
    CmdRun idx arg kind 6 (s, .goOn (.frame 0))
      ({ s.afterExchanges (frameBytes idx arg) with crc7 := crc7Of ((frameBytes idx arg).take 5), respx := 0#32 },
        .goOn (if idx = 12#6 then .stuff else .poll 0)) := by
  rw [State.afterExchanges_frameBytes]
  exact (CmdRun.frameHead (by decide)).trans (.of_cmdStep (cmdStep_frame_last hkind))

/-- How many stuff bytes follow the frame (41_command.md R75). -/
def stuffBytes (idx : BitVec 6) : Nat := if idx = 12#6 then 1 else 0

/-- The frame with the stuff byte of CMD12, up to the first poll byte (41_command.md R74, R75). -/
theorem CmdRun.frameToPoll (hkind : kind ≠ .noResp) :
    CmdRun idx arg kind (6 + stuffBytes idx) (s.withCmd g, .goOn (.frame 0))
      ((s.afterExchanges (frameBytes idx arg ++ List.replicate (stuffBytes idx) 0xFF#8)).withCmd
          { g with crc7 := crc7Of ((frameBytes idx arg).take 5), respx := 0#32 },
        .goOn (.poll 0)) := by
  have hframe := CmdRun.frame (idx := idx) (arg := arg) (s := s.withCmd g) hkind
  rw [State.withCmd_afterExchanges] at hframe
  rw [State.afterExchanges_append]
  refine hframe.trans ?_
  unfold stuffBytes
  split
  · rw [List.replicate_one, State.afterExchanges_singleton]
    exact .of_cmdStep rfl
  · exact .refl _

/-- Bytes with bit 7 set while the poll has another byte left (41_command.md R76). -/
theorem CmdRun.stray {stray : List Byte} (hbit : ∀ b ∈ stray, b.getLsbD 7 = true) {k : Nat}
    (hk : k + stray.length ≤ 7) (hc : s.card = stray ++ rest) :
    CmdRun idx arg kind stray.length (s, .goOn (.poll k))
      (s.afterExchanges (List.replicate stray.length 0xFF#8), .goOn (.poll (k + stray.length))) := by
  induction stray generalizing s k with
  | nil => exact .refl _
  | cons b stray ih =>
    rw [List.forall_mem_cons] at hbit
    rw [List.length_cons] at hk ⊢
    have hstep : cmdStep idx arg kind (.poll k) s = (s.exchange 0xFF#8, .goOn (.poll (k + 1))) :=
      cmdStep_poll_stray (by rw [State.answer_of_card hc, hbit.1]) (by omega)
    have hnext := ih (s := s.exchange 0xFF#8) (k := k + 1) hbit.2 (by omega) (by simp [hc])
    have hlast : k + (stray.length + 1) = k + 1 + stray.length := by omega
    rw [List.replicate_succ, State.afterExchanges_cons, hlast]
    exact .step (hstep ▸ hnext)

/-- An attempt that ends with a class that is no CRC error ends the call (41_command.md R82). -/
theorem attemptEnd_of_ne_crc (h : cls ≠ .crc) (s : State) : attemptEnd cls (cls == .crc) s = (s, .done cls) := by
  simp [attemptEnd, h]

/-- RESPX once more bytes are shifted in (41_command.md R79). -/
def respxFrom (x : Word) (bytes : List Byte) : Word := bytes.foldl (fun x b => (x <<< 8) ||| b.setWidth 32) x

/-- The only tail byte of R2 is shifted into a cleared RESPX (41_command.md R79, R84). -/
theorem respxAfter_eq (hkind : tailBytes kind ≠ 0) {x : Word} (hx : kind = .r2 → x = 0#32) (b : Byte) :
    respxAfter kind x b = (x <<< 8) ||| b.setWidth 32 := by
  cases kind with
  | noResp | r1 | r1b => exact absurd rfl hkind
  | r2 =>
    rw [hx rfl]
    simp [respxAfter]
  | r3 | r7 => rfl

/-- The tail of R2, R3 and R7 (41_command.md R79). -/
theorem CmdRun.tail (hcls : cls ≠ .crc) {tail : List Byte} (hne : tail ≠ []) {k : Nat}
    (hk : k + tail.length = tailBytes kind) (hx : kind = .r2 → g.respx = 0#32) (hc : s.card = tail ++ rest) :
    CmdRun idx arg kind tail.length (s.withCmd g, .goOn (.tail k cls))
      ((s.afterExchanges (List.replicate tail.length 0xFF#8)).withCmd { g with respx := respxFrom g.respx tail },
        .done cls) := by
  induction tail generalizing s g k with
  | nil => exact absurd rfl hne
  | cons b tail ih =>
    rw [List.length_cons] at hk ⊢
    have hrespx := respxAfter_eq (by omega : tailBytes kind ≠ 0) hx b
    have hstep : cmdStep idx arg kind (.tail k cls) (s.withCmd g) =
        if k + 1 < tailBytes kind then
          ((s.exchange 0xFF#8).withCmd { g with respx := respxFrom g.respx [b] }, .goOn (.tail (k + 1) cls))
        else ((s.exchange 0xFF#8).withCmd { g with respx := respxFrom g.respx [b] }, .done cls) := by
      rw [← attemptEnd_of_ne_crc hcls]
      simp only [cmdStep, tailStep, State.withCmd_answer, State.answer_of_card hc, State.withCmd_respx, hrespx]
      rfl
    rw [List.replicate_succ, State.afterExchanges_cons]
    refine .step ?_
    rw [hstep]
    cases tail with
    | nil =>
      rw [if_neg (by simp at hk; omega)]
      exact .refl _
    | cons b' tail =>
      rw [List.length_cons] at hk
      rw [if_pos (by omega)]
      have hr2 : kind ≠ .r2 := by
        rintro rfl
        simp [tailBytes] at hk
        omega
      exact ih (List.cons_ne_nil _ _) (by rw [List.length_cons]; omega) (fun h => absurd h hr2) (by simp [hc])

/-- A busy card that ends busy before any tick (41_command.md R80, 10_state.md R28). -/
theorem CmdRun.busy (hcls : cls ≠ .crc) {front : List Byte} (hfront : ∀ b ∈ front, b ≠ 0xFF#8)
    (hlimit : front = [] ∨ s.toutBusy ≠ 0#32) {w : WaitPos} (hw : waitStart w (s.withCmd g) = s.ticks)
    (hc : s.card = front ++ 0xFF#8 :: rest) :
    CmdRun idx arg kind (front.length + 1) (s.withCmd g, .goOn (.busy w cls))
      ((s.afterExchanges (List.replicate (front.length + 1) 0xFF#8)).withCmd { g with t0 := s.ticks }, .done cls) := by
  induction front generalizing s g w with
  | nil =>
    refine .of_cmdStep ?_
    rw [cmdStep, busyStep_eq, State.withCmd_answer, State.answer_of_card hc, if_pos rfl, hw, attemptEnd_of_ne_crc hcls,
      List.length_nil, List.replicate_one, State.afterExchanges_singleton]
    rfl
  | cons b front ih =>
    rw [List.forall_mem_cons] at hfront
    have hpos : ¬s.toutBusy.toNat ≤ (s.ticks - s.ticks).toNat := by
      obtain h | h := hlimit
      · cases h
      · rw [BitVec.sub_self]
        simpa [← BitVec.toNat_inj] using h
    have hstep : cmdStep idx arg kind (.busy w cls) (s.withCmd g) =
        ((s.exchange 0xFF#8).withCmd { g with t0 := s.ticks }, .goOn (.busy .again cls)) := by
      rw [cmdStep, busyStep_eq, State.withCmd_answer, State.answer_of_card hc, if_neg hfront.1, hw,
        State.withCmd_toutBusy, State.withCmd_ticks, if_neg hpos]
      rfl
    rw [List.length_cons, List.replicate_succ, State.afterExchanges_cons]
    refine .step ?_
    rw [hstep]
    exact ih (s := s.exchange 0xFF#8) hfront.2 (.inr (hlimit.resolve_left (List.cons_ne_nil _ _))) rfl (by simp [hc])

/-- `Resync()` and the next attempt's first byte after it (41_command.md R81, R82). -/
theorem CmdRun.resync :
    CmdRun idx arg kind 3 (s, .goOn (.resync .low))
      ({ s with
          cs := true
          wire := .cs true :: .xchg false 0xFF#8 s.answer :: .cs false :: s.wire
          card := s.card.tail
          draws := s.draws + 1 },
        .goOn (.frame 0)) :=
  .step (.step (.step (.refl _)))

end

/-! ## One attempt, and one resync, in steps of SEND_CMD -/

/-- Settles O13: each frame byte is one action, and six of them from the first make a frame (`CmdRun.frame`). -/
theorem commandAttemptSendsItsFrame : Obligations.CommandAttemptSendsItsFrame := by
  intro i kind idx s hi b₀
  refine ⟨fun hp => ?_, fun k hk hp => ?_, fun hp => ?_, fun hkind hp => ?_⟩
  · rw [exec_command hi hp, cmdStep_start, cmdStep_frame_of_lt (by decide)]
    rfl
  · have hb : frameByte idx s.arg k = (frameBytes idx s.arg).getD k 0#8 := by
      interval_cases k <;> rfl
    rw [exec_command hi hp, cmdStep_frame_of_lt hk, sendFrameByte, hb]
    rfl
  · rw [exec_command hi hp]
    by_cases hkind : kind = .noResp
    · subst hkind
      rfl
    · rw [cmdStep_frame_last hkind, if_neg hkind, if_neg hkind]
      rfl
  · exact (CmdRun.frame hkind).execRun_of_phase hi hp

/-- Settles O17: the stuff byte is one action, and the resync three (`CmdRun.resync`). -/
theorem stuffByteAndResyncLeadToTheirNext : Obligations.StuffByteAndResyncLeadToTheirNext := by
  intro i kind idx s hi
  exact ⟨fun hp => exec_command hi hp, fun hp => CmdRun.resync.execRun_of_phase hi hp⟩

/-! ## Whole commands -/

/-- Settles O12: CmdCore without a response is its frame alone. -/
theorem sendCmdNoneSendsOnlyTheFrame : Obligations.SendCmdNoneSendsOnlyTheFrame := by
  intro idx s hp
  have hrun := CmdRun.of_start (CmdRun.frame_noResp (idx := idx) (arg := s.arg) (s := s.withCmd s.cmdCleared))
  rw [State.withCmd_afterExchanges] at hrun
  exact hrun.execRun_of_decode rfl hp

/-! ## A good response (41_command.md R85) -/

section
variable {idx : BitVec 6} {arg : Word} {kind : RKind} {s : State} {g : CmdRegs} {rest : List Byte}

/-- One exchange of idle bytes, and then more of them. -/
theorem State.afterExchanges_idle (n : Nat) (s : State) :
    s.afterExchanges (List.replicate (n + 1) 0xFF#8) = (s.exchange 0xFF#8).afterExchanges (List.replicate n 0xFF#8) :=
  State.afterExchanges_cons ..

/-- The bytes of a response that ends the call at its first R1: no CRC error, the tail of the kind, and for R1B a card
that ends busy before any tick (41_command.md R76 to R80). -/
structure EndingResponse (idx : BitVec 6) (kind : RKind) (limit : Word) (r1 : Byte) (tail busy : List Byte) : Prop where
  bit7 : r1.getLsbD 7 = false
  ne_crc : classifyR1 (maskR1 idx r1) ≠ .crc
  tail_length : tail.length = tailBytes kind
  busy_nil : kind ≠ .r1b → busy = []
  busy_ends : kind = .r1b → ∃ front, busy = front ++ [0xFF#8] ∧ (∀ b ∈ front, b ≠ 0xFF#8) ∧ (front = [] ∨ limit ≠ 0#32)

/-- CmdCore's registers after such a response. -/
def CmdRegs.responded (idx : BitVec 6) (kind : RKind) (r1 : Byte) (tail : List Byte) (ticks : Word) (g : CmdRegs) :
    CmdRegs :=
  { g with
    resp := maskR1 idx r1
    respx := respxFrom g.respx tail
    t0 := if kind = .r1b then ticks else g.t0 }

variable {r1 : Byte} {tail busy : List Byte} {k : Nat}

/-- The R1, the tail and the busy wait, one after another. -/
theorem CmdRun.response (hkind : kind ≠ .noResp) (h : EndingResponse idx kind s.toutBusy r1 tail busy)
    (hx : g.respx = 0#32) (hc : s.card = r1 :: (tail ++ busy ++ rest)) :
    CmdRun idx arg kind (tail.length + busy.length + 1) (s.withCmd g, .goOn (.poll k))
      ((s.afterExchanges (List.replicate (tail.length + busy.length + 1) 0xFF#8)).withCmd
          (g.responded idx kind r1 tail s.ticks),
        .done (classifyR1 (maskR1 idx r1))) := by
  obtain ⟨hbit, hcls, htail, hidle, hbusy⟩ := h
  have hstep : cmdStep idx arg kind (.poll k) (s.withCmd g) =
      r1Found idx kind r1 ((s.exchange 0xFF#8).withCmd g) := by
    rw [cmdStep_poll_r1 (by rw [State.withCmd_answer, State.answer_of_card hc, hbit]), State.withCmd_answer,
      State.answer_of_card hc, State.withCmd_exchange]
  rw [State.afterExchanges_idle]
  refine .step ?_
  rw [hstep]
  generalize hu : s.exchange 0xFF#8 = u
  have hcard : u.card = tail ++ busy ++ rest := by simp [← hu, hc]
  obtain ⟨htout, hticks⟩ : u.toutBusy = s.toutBusy ∧ u.ticks = s.ticks := by simp [← hu]
  cases kind with
  | noResp => exact absurd rfl hkind
  | r1 =>
    obtain rfl := hidle nofun
    obtain rfl := List.eq_nil_of_length_eq_zero htail
    rw [r1Found, attemptEnd_of_ne_crc hcls]
    exact .refl _
  | r1b =>
    obtain ⟨front, rfl, hfront, hlimit⟩ := hbusy rfl
    obtain rfl := List.eq_nil_of_length_eq_zero htail
    have hrun := CmdRun.busy (idx := idx) (arg := arg) (kind := .r1b) (s := u) (w := .first)
      (g := { g with resp := maskR1 idx r1 }) hcls hfront (htout ▸ hlimit) rfl (by simpa using hcard)
    have hlen : ([] : List Byte).length + (front ++ [0xFF#8]).length = front.length + 1 := by simp
    rw [hlen, ← hticks]
    exact hrun
  | r2 | r3 | r7 =>
    obtain rfl := hidle nofun
    have hne : tail ≠ [] := by
      rintro rfl
      cases htail
    exact CmdRun.tail (k := 0) (g := { g with resp := maskR1 idx r1 }) hcls hne ((Nat.zero_add _).trans htail)
      (fun _ => hx) (by simpa using hcard)

/-- The poll up to such a response, and the response. -/
theorem CmdRun.strayThenResponse (hkind : kind ≠ .noResp) {stray : List Byte} (hlen : stray.length ≤ 7)
    (hstray : ∀ b ∈ stray, b.getLsbD 7 = true) (h : EndingResponse idx kind s.toutBusy r1 tail busy)
    (hx : g.respx = 0#32) (hc : s.card = stray ++ r1 :: (tail ++ busy ++ rest)) :
    CmdRun idx arg kind (stray.length + (tail.length + busy.length + 1)) (s.withCmd g, .goOn (.poll 0))
      ((s.afterExchanges (List.replicate (stray.length + (tail.length + busy.length + 1)) 0xFF#8)).withCmd
          (g.responded idx kind r1 tail s.ticks),
        .done (classifyR1 (maskR1 idx r1))) := by
  have hpoll := CmdRun.stray (idx := idx) (arg := arg) (kind := kind) (s := s.withCmd g) hstray (k := 0) (by omega) hc
  rw [State.withCmd_afterExchanges] at hpoll
  rw [← List.replicate_append_replicate, State.afterExchanges_append]
  exact hpoll.trans (CmdRun.response hkind h hx (State.card_afterExchanges hc List.length_replicate.symm))

end

/-- Settles O18: the frame, the stray bytes and the response one after another (`CmdRun.frameToPoll`,
`CmdRun.strayThenResponse`). -/
theorem sendCmdSucceedsOnAGoodResponse : Obligations.SendCmdSucceedsOnAGoodResponse := by
  intro i kind idx s during stuff stray tail busy rest r1 hi hkind hp hduring hstuff hlen hstray hbit hcls htail hidle
    hbusy hc n
  have hresponse : EndingResponse idx kind s.toutBusy r1 tail busy :=
    ⟨hbit, by rw [hcls]; nofun, htail, hidle, hbusy⟩
  have hframe := CmdRun.frameToPoll (idx := idx) (arg := s.arg) (g := s.cmdCleared) (s := s) hkind
  rw [show stuffBytes idx = stuff.length from hstuff.symm] at hframe
  have hcard : (s.afterExchanges (frameBytes idx s.arg ++ List.replicate stuff.length 0xFF#8)).card =
      stray ++ r1 :: (tail ++ busy ++ rest) :=
    State.card_afterExchanges (taken := during ++ stuff) (by simp [hc]) (by simp [hduring, length_frameBytes])
  have hrun := hframe.trans (CmdRun.strayThenResponse hkind hlen hstray hresponse rfl hcard)
  have hn : 6 + stuff.length + (stray.length + (tail.length + busy.length + 1)) = n + 6 := by omega
  have hbytes : stuff.length + (stray.length + (tail.length + busy.length + 1)) = n := by omega
  rw [← State.afterExchanges_append, List.append_assoc, List.replicate_append_replicate, hn, hbytes, hcls] at hrun
  exact (CmdRun.of_start hrun).execRun_of_decode hi hp

/-! ## A silent card (41_command.md R82) -/

section
variable {idx : BitVec 6} {arg : Word} {kind : RKind} {s : State} {g : CmdRegs} {rest : List Byte}

/-- Eight poll bytes without an R1 end the attempt (41_command.md R76, R82). -/
theorem CmdRun.silentPoll (hc : s.card = List.replicate 8 0xFF#8 ++ rest) :
    CmdRun idx arg kind 8 (s, .goOn (.poll 0))
      (attemptEnd .timeout true { s.afterExchanges (List.replicate 8 0xFF#8) with resp := 0xFF#8 }) := by
  have hstray := CmdRun.stray (idx := idx) (arg := arg) (kind := kind) (s := s) (stray := List.replicate 7 0xFF#8)
    (rest := 0xFF#8 :: rest) (by simp) (k := 0) (by simp) hc
  rw [List.length_replicate] at hstray
  have hanswer : (s.afterExchanges (List.replicate 7 0xFF#8)).answer = 0xFF#8 :=
    State.answer_of_card (State.card_afterExchanges (taken := List.replicate 7 0xFF#8) hc (by simp))
  have hlast : s.afterExchanges (List.replicate 8 0xFF#8) =
      (s.afterExchanges (List.replicate 7 0xFF#8)).exchange 0xFF#8 := by
    rw [← State.afterExchanges_singleton, ← State.afterExchanges_append]
    rfl
  have hend := cmdStep_poll_silent (idx := idx) (arg := arg) (kind := kind)
    (s := s.afterExchanges (List.replicate 7 0xFF#8)) (by rw [hanswer]; rfl)
  rw [hanswer] at hend
  rw [hlast]
  exact hstray.trans (.of_cmdStep hend)

/-- What CmdCore's registers are when an attempt has found no R1 (41_command.md R79, R84). -/
def CmdRegs.silent (idx : BitVec 6) (arg : Word) (g : CmdRegs) : CmdRegs :=
  { g with crc7 := crc7Of ((frameBytes idx arg).take 5), resp := 0xFF#8, respx := 0#32 }

/-- An attempt to a silent card. -/
theorem CmdRun.silentAttempt (hkind : kind ≠ .noResp)
    (hc : s.card = List.replicate (stuffBytes idx + 14) 0xFF#8 ++ rest) :
    CmdRun idx arg kind (stuffBytes idx + 14) (s.withCmd g, .goOn (.frame 0))
      (attemptEnd .timeout true
        ((s.afterExchanges (frameBytes idx arg ++ List.replicate (stuffBytes idx + 8) 0xFF#8)).withCmd
          (g.silent idx arg))) := by
  have hframe := CmdRun.frameToPoll (idx := idx) (arg := arg) (g := g) (s := s) hkind
  have hcard : (s.afterExchanges (frameBytes idx arg ++ List.replicate (stuffBytes idx) 0xFF#8)).card =
      List.replicate 8 0xFF#8 ++ rest := by
    refine State.card_afterExchanges (taken := List.replicate (stuffBytes idx + 6) 0xFF#8) ?_
      (by simp [length_frameBytes, Nat.add_comm])
    rw [hc, ← List.append_assoc, List.replicate_append_replicate]
  have hrun := hframe.trans (CmdRun.silentPoll hcard)
  rw [State.withCmd_afterExchanges, ← State.afterExchanges_append, List.append_assoc, List.replicate_append_replicate]
    at hrun
  have hn : 6 + stuffBytes idx + 8 = stuffBytes idx + 14 := by omega
  rwa [hn] at hrun

/-- What a command to a silent card leaves: the card's bytes taken, and the chip select and the trace as they came. -/
def State.silenced (exchanges : Nat) (rest : List Byte) (cs : Bool) (wire : List WireEvent) (s : State) : State :=
  { s with card := rest, draws := s.draws + exchanges, cs := cs, wire := wire }

theorem State.silenced_silenced (m n : Nat) (rest rest' : List Byte) (c c' : Bool) (w w' : List WireEvent) (s : State) :
    (s.silenced m rest c w).silenced n rest' c' w' = s.silenced (m + n) rest' c' w' := by
  simp [State.silenced, Nat.add_assoc]

/-- The resync of a silent card. -/
theorem CmdRun.resync_silenced {b : Byte} (hc : s.card = b :: rest) :
    CmdRun idx arg kind 3 (s.withCmd g, .goOn (.resync .low))
      ((s.silenced 1 rest true (.cs true :: .xchg false 0xFF#8 s.answer :: .cs false :: s.wire)).withCmd g,
        .goOn (.frame 0)) := by
  have hrest : rest = s.card.tail := by rw [hc, List.tail_cons]
  rw [hrest]
  exact .resync

/-- The exchanges of an attempt to a silent card. -/
theorem State.afterExchanges_silentAttempt (hc : s.card = List.replicate (stuffBytes idx + 14) 0xFF#8 ++ rest) :
    let tx := frameBytes idx arg ++ List.replicate (stuffBytes idx + 8) 0xFF#8
    s.afterExchanges tx = s.silenced (stuffBytes idx + 14) rest s.cs (s.afterExchanges tx).wire := by
  intro tx
  have hlen : stuffBytes idx + 14 = tx.length := by
    simp [tx, length_frameBytes]
    omega
  rw [State.silenced, ← State.card_afterExchanges hc (List.length_replicate.trans hlen), hlen]
  rfl

/-- A retryable attempt below CMD_RETRY is counted and resynced (41_command.md R82). -/
theorem attemptEnd_retry {cls : CompletionClass} (h : g.attempt.toNat < s.ctrl.cmdRetry.toNat) :
    attemptEnd cls true (s.withCmd g) =
      (s.withCmd { g with attempt := g.attempt + 1#4 }, .goOn (.resync .low)) := by
  simp [attemptEnd, h, State.withCmd]

/-- At CMD_RETRY the attempt's class ends the call (41_command.md R82). -/
theorem attemptEnd_exhausted {cls : CompletionClass} {retryable : Bool}
    (h : s.ctrl.cmdRetry.toNat ≤ s.attempt.toNat) : attemptEnd cls retryable s = (s, .done cls) := by
  simp [attemptEnd, h]

/-- An attempt to a silent card with a retry left, and the resync after it. -/
theorem CmdRun.silentRetry (hkind : kind ≠ .noResp) (hlt : g.attempt.toNat < s.ctrl.cmdRetry.toNat)
    (hc : s.card = List.replicate (stuffBytes idx + 15) 0xFF#8 ++ rest) :
    ∃ wire,
      CmdRun idx arg kind (stuffBytes idx + 17) (s.withCmd g, .goOn (.frame 0))
        ((s.silenced (stuffBytes idx + 15) rest true wire).withCmd
            { g.silent idx arg with attempt := g.attempt + 1#4 },
          .goOn (.frame 0)) := by
  have hcard : s.card = List.replicate (stuffBytes idx + 14) 0xFF#8 ++ (0xFF#8 :: rest) := by
    rw [hc, List.replicate_succ']
    simp
  have hattempt := CmdRun.silentAttempt (g := g) (arg := arg) hkind hcard
  rw [State.afterExchanges_silentAttempt hcard, attemptEnd_retry] at hattempt
  · exact ⟨_, hattempt.trans (CmdRun.resync_silenced (rest := rest) rfl)⟩
  · exact hlt

/-- With `n` retries left a silent card is asked `n + 1` times, and the command times out (41_command.md R82); by
induction on `n`. -/
theorem CmdRun.silentAttempts (hkind : kind ≠ .noResp) {n : Nat} (hn : g.attempt.toNat + n = s.ctrl.cmdRetry.toNat)
    (hc : s.card = List.replicate ((stuffBytes idx + 15) * n + (stuffBytes idx + 14)) 0xFF#8 ++ rest) :
    ∃ cs wire,
      CmdRun idx arg kind ((stuffBytes idx + 17) * n + (stuffBytes idx + 14)) (s.withCmd g, .goOn (.frame 0))
        ((s.silenced ((stuffBytes idx + 15) * n + (stuffBytes idx + 14)) rest cs wire).withCmd
            { g.silent idx arg with attempt := s.ctrl.cmdRetry },
          .done .timeout) := by
  induction n generalizing s g with
  | zero =>
    rw [Nat.mul_zero, Nat.zero_add] at hc ⊢
    have hlast : g.attempt = s.ctrl.cmdRetry := BitVec.eq_of_toNat_eq hn
    have hattempt := CmdRun.silentAttempt (g := g) (arg := arg) hkind hc
    rw [attemptEnd_exhausted (Nat.le_of_eq hn.symm), State.afterExchanges_silentAttempt hc] at hattempt
    rw [Nat.mul_zero, Nat.zero_add, ← hlast]
    exact ⟨_, _, hattempt⟩
  | succ n ih =>
    have hexchanges : (stuffBytes idx + 15) * (n + 1) + (stuffBytes idx + 14) =
        stuffBytes idx + 15 + ((stuffBytes idx + 15) * n + (stuffBytes idx + 14)) := by ring
    have hsteps : (stuffBytes idx + 17) * (n + 1) + (stuffBytes idx + 14) =
        stuffBytes idx + 17 + ((stuffBytes idx + 17) * n + (stuffBytes idx + 14)) := by ring
    rw [hexchanges, ← List.replicate_append_replicate, List.append_assoc] at hc
    obtain ⟨w, hretry⟩ := CmdRun.silentRetry (g := g) (arg := arg) hkind (by omega) hc
    have hcount : (g.attempt + 1#4).toNat + n = s.ctrl.cmdRetry.toNat := by
      have hbound := s.ctrl.cmdRetry.isLt
      rw [BitVec.toNat_add, BitVec.toNat_ofNat]
      omega
    obtain ⟨c, w', hrest⟩ := ih (s := s.silenced (stuffBytes idx + 15) _ true w)
      (g := { g.silent idx arg with attempt := g.attempt + 1#4 }) hcount rfl
    rw [State.silenced_silenced, ← hexchanges] at hrest
    rw [hsteps]
    exact ⟨c, w', hretry.trans hrest⟩

end

/-- Settles O19: `CmdRun.silentAttempts` from the first attempt, with all of CMD_RETRY left. -/
theorem silentCardExhaustsTheRetries : Obligations.SilentCardExhaustsTheRetries := by
  intro idx s rest hidx hp r hc
  have hstuff : stuffBytes idx = 0 := if_neg hidx
  have hexchanges : 14 * (r + 1) + r = (stuffBytes idx + 15) * r + (stuffBytes idx + 14) := by rw [hstuff]; ring
  have hsteps : 14 * (r + 1) + 3 * r = (stuffBytes idx + 17) * r + (stuffBytes idx + 14) := by rw [hstuff]; ring
  rw [hexchanges] at hc ⊢
  obtain ⟨c, w, hrun⟩ := CmdRun.silentAttempts (idx := idx) (arg := s.arg) (kind := .r1) (g := s.cmdCleared) nofun
    (Nat.zero_add r) hc
  rw [hsteps]
  exact ⟨_, (CmdRun.of_start hrun).execRun_of_decode rfl hp, rfl, rfl, rfl, rfl, rfl, rfl⟩

end Sys2Proof.Machine
end

section
/-! PROOFS. The single actions of the data operations (42_data_transfer.md R92 to R102): what `exec` answers at each
position of a read and of a write. -/

namespace Sys2Proof.Machine

/-! ## Where a data operation starts (42_data_transfer.md R95, R96, R99) -/

/-- The position after the step that clears XFER. -/
def dataStart (i : Instr) (count : BitVec 16) : Phase :=
  match i with
  | .receive => recvBlock count 0
  | .transmit => sendBlock false false count 0
  | .transmitM => sendBlock true false count 0
  | .transmitMF => sendBlock true true count 0
  | _ => .recv 0 (.token .first)

theorem exec_clearXfer {i : Instr} {bytes : Word} (hi : blockBytes i = some bytes) {s : State}
    (hp : s.phase = .clearXfer) : exec i s = .next (startData (dataStart i s.count) s) := by
  cases i with
  | receive => simp [exec, execReceive, runPhase, hp, dataStart]
  | recvShort len => simp [exec, execRecvShort, runPhase, hp, dataStart]
  | transmit => simp [exec, execTransmit, transmitBody, runPhase, hp, dataStart]
  | transmitM => simp [exec, execTransmitM, transmitBody, runPhase, hp, dataStart]
  | transmitMF => simp [exec, execTransmitMF, transmitBody, runPhase, hp, dataStart]
  | _ => cases hi

theorem firstAction_of_blockBytes {i : Instr} {bytes : Word} (hi : blockBytes i = some bytes) :
    firstAction i = .clearXfer := by
  cases i <;> first | rfl | cases hi

/-- The two steps that start a legal data operation: decode, and XFER cleared. -/
theorem execRun_dataStart {i : Instr} {bytes : Word} (hi : blockBytes i = some bytes) {s : State}
    (hl : legalOp i s.count = true) (hp : s.phase = .decode) :
    execRun i 2 s = .next (startData (dataStart i s.count) s) := by
  have hdecode : exec i s = .next (s.setPhase .clearXfer) := by
    rw [exec_decode i hp, hl, State.decodeTo_true, firstAction_of_blockBytes hi]
  rw [execRun_succ hdecode, execRun_succ (exec_clearXfer hi rfl)]
  rfl

theorem ite_lt_toNat {α : Type} (c : BitVec 16) (a b : α) :
    (if 0 < c.toNat then a else b) = if c = 0#16 then b else a := by
  simp only [Nat.pos_iff_ne_zero, ite_not, ← BitVec.toNat_inj, BitVec.toNat_ofNat, Nat.zero_mod]

/-- Settles O27: `exec_clearXfer`, with the first block of each operation written out. -/
theorem dataOperationsClearXfer : Obligations.DataOperationsClearXfer := by
  intro s len hp
  have hread : dataStart .receive s.count = if s.count = 0#16 then finishOk else .recv 0 (.token .first) :=
    ite_lt_toNat ..
  have hwrite : ∀ multi final, sendBlock multi final s.count 0 =
      if s.count = 0#16 then afterBlocks multi final s.count else .send 0 (.ready .first) := fun _ _ => ite_lt_toNat ..
  have hnone : s.count = 0#16 → afterBlocks false false s.count = finishOk := by
    intro h
    rw [h]
    decide
  refine ⟨?_, exec_clearXfer (i := .recvShort len) rfl hp, ?_, ?_, ?_⟩
  · rw [exec_clearXfer rfl hp, hread]
    rfl
  · rw [exec_clearXfer rfl hp, dataStart, hwrite]
    by_cases h : s.count = 0#16
    · rw [if_pos h, if_pos h, hnone h]
      rfl
    · rw [if_neg h, if_neg h]
      rfl
  · rw [exec_clearXfer rfl hp, dataStart, hwrite]
    rfl
  · rw [exec_clearXfer rfl hp, dataStart, hwrite]
    rfl

/-! ## The actions of RecvPacket (42_data_transfer.md R92, R93) -/

/-- After an action of the RecvPacket of either read operation (42_data_transfer.md R95, R96). -/
def readNext (i : Instr) (k : Nat) : State × RecvNext → State
  | (s, .goOn p) => s.setPhase (.recv k p)
  | (s, .good) =>
    s.setPhase (if i = .receive ∧ k + 1 < s.count.toNat then .recv (k + 1) (.token .first) else finishOk)
  | (s, .failed f) => s.setPhase (.recvFailed f)

theorem readNext_receive (k : Nat) (r : State × RecvNext) : readNext .receive k r = receiveNext k r := by
  obtain ⟨s, p | _ | f⟩ := r
  · rfl
  · simp [readNext, receiveNext, recvBlock]
  · rfl

theorem readNext_recvShort (len : BitVec 10) (k : Nat) (r : State × RecvNext) :
    readNext (.recvShort len) k r = recvShortNext k r := by
  obtain ⟨s, p | _ | f⟩ := r <;> rfl

section
variable {i : Instr} {n k : Nat} {p : RecvPos} {s : State}

/-- A read operation at a position of its packet takes RecvPacket's action. -/
theorem exec_recv (hi : packetLength i = some n) (hp : s.phase = .recv k p) {r : State × RecvNext}
    (hr : recvStep n p s = some r) : exec i s = .next (readNext i k r) := by
  obtain ⟨rfl, rfl⟩ | ⟨len, rfl, rfl⟩ := cases_of_packetLength hi
  · rw [readNext_receive]
    exact exec_receive_at hp hr
  · rw [readNext_recvShort]
    simp [exec, execRecvShort, runPhase, hp, hr]

/-- Before an unbacked address a read operation has no step (20_memory.md R36). -/
theorem exec_recv_unbacked (hi : packetLength i = some n) {j : Nat} (hp : s.phase = .recv k (.data j))
    (hb : s.backed (dataAddr s j) = false) : exec i s = .fault .unbackedAccess := by
  have hr : ∀ m, recvStep m (.data j) s = none := fun m => recvStep_eq_none.mpr ⟨j, rfl, hb⟩
  obtain ⟨rfl, rfl⟩ | ⟨len, rfl, rfl⟩ := cases_of_packetLength hi
  · simp [exec, execReceive, runPhase, hp, hr]
  · simp [exec, execRecvShort, runPhase, hp, hr]

end

/-- The three kinds of a token by its value (42_data_transfer.md R92). -/
theorem tokenKind_of_toNat (tok : Byte) :
    (tok.toNat < 0x10 → tokenKind tok = .dataError) ∧
      (0x10 ≤ tok.toNat → tok ≠ 0xFE#8 → tokenKind tok = .unexpected) := by
  revert tok
  decide

/-- Settles O21: `recvToken_eq`, at the byte that waits, times out, starts the block or fails it. -/
theorem startTokenIsRecognised : Obligations.StartTokenIsRecognised := by
  intro i n k wp s hi hn hp tok t0 s₁
  have hstep : exec i s = .next (readNext i k (recvToken n wp s)) := exec_recv hi hp rfl
  have ht0 : waitStart wp s = t0 := rfl
  rw [recvToken_eq, ht0] at hstep
  dsimp only at hstep
  rw [hstep]
  refine ⟨fun h hlt => ?_, fun h hle => ?_, fun h => ?_, fun h => ?_, fun h hfe hff => ?_⟩
  · rw [if_pos h, if_neg (Nat.not_le.mpr hlt)]
    rfl
  · rw [if_pos h, if_pos hle]
    rfl
  · have hkind : tokenKind s.answer = .startBlock := by rw [show s.answer = 0xFE#8 from h]; rfl
    rw [if_neg (by rw [show s.answer = 0xFE#8 from h]; decide), hkind, show s.answer = 0xFE#8 from h]
    simp only [dataFrom, if_pos hn]
    rfl
  · have hff : s.answer ≠ 0xFF#8 := fun hff => by simp [tok, hff] at h
    rw [if_neg hff, (tokenKind_of_toNat s.answer).1 h]
    simp only [dataErrorFailure, Bool.or_eq_true]
    rfl
  · rw [if_neg hff, (tokenKind_of_toNat s.answer).2 h hfe]
    rfl

theorem recvCrcLo_good (n : Nat) {s : State} (h : s.crc16Rx ||| s.answer.setWidth 16 = s.crc16) :
    recvCrcLo n s =
      ({ s.exchange 0xFF#8 with
          crc16Rx := s.crc16
          addr := s.addr + BitVec.ofNat 32 n
          xfer := s.xfer + 1#16 },
        .good) := by
  unfold recvCrcLo
  dsimp only
  rw [if_pos h, h]

theorem recvCrcLo_bad (n : Nat) {s : State} (h : s.crc16Rx ||| s.answer.setWidth 16 ≠ s.crc16) :
    recvCrcLo n s =
      ({ s.exchange 0xFF#8 with crc16Rx := s.crc16Rx ||| s.answer.setWidth 16 }, .failed crcFailure) :=
  if_neg h

/-- Settles O22: each byte is one action of RecvPacket, and the last is good exactly when the CRC16 matches. -/
theorem packetBytesAreStoredAndChecked : Obligations.PacketBytesAreStoredAndChecked := by
  intro i n k s hi d s₁
  refine ⟨fun j hp hb => ?_, fun j hp hb => exec_recv_unbacked hi hp hb, fun hp => exec_recv hi hp rfl,
    fun hp hne => ?_, fun hp heq => ?_⟩
  · exact exec_recv hi hp (if_pos hb)
  · rw [exec_recv hi hp rfl, recvCrcLo_bad n hne]
    rfl
  · rw [exec_recv hi hp rfl, recvCrcLo_good n heq]
    rfl

theorem exec_recvFailed_receive {f : Failure} {s : State} (hp : s.phase = .recvFailed f) :
    exec .receive s = .next ((s.setRetryable f.retryable).setPhase (.autoStop f .start)) := by
  simp [exec, execReceive, runPhase, hp]

theorem exec_recvFailed_recvShort {len : BitVec 10} {f : Failure} {s : State} (hp : s.phase = .recvFailed f) :
    exec (.recvShort len) s = .next ((s.setRetryable f.retryable).setPhase (.finish f.err f.cls)) := by
  simp [exec, execRecvShort, runPhase, hp]

/-- Settles O26: RETRYABLE, and `Finish` after it. -/
theorem failedRecvShortSendsNoStop : Obligations.FailedRecvShortSendsNoStop := by
  intro len f s hp
  have hfailed := exec_recvFailed_recvShort (len := len) hp
  refine ⟨hfailed, ?_⟩
  rw [execRun_succ hfailed, execRun_succ (exec_finish _ rfl)]
  rfl

/-! ## The actions of a written block (42_data_transfer.md R97, R99) -/

section
variable {i : Instr} {multi final : Bool} {k : Nat} {s : State}

/-- A write at a position of its block takes the block's action. -/
theorem exec_send (hi : writeOf i = some (multi, final)) {p : SendPos} (hp : s.phase = .send k p) {t : State}
    (ht : sendStep multi final k p s = some t) : exec i s = .next t := by
  rw [exec_of_writeOf hi]
  simp [transmitBody, runPhase, hp, ht]

/-- Before an unbacked address a write has no step (20_memory.md R36). -/
theorem exec_send_unbacked (hi : writeOf i = some (multi, final)) {j : Nat} (hp : s.phase = .send k (.data j))
    (hb : s.backed (dataAddr s j) = false) : exec i s = .fault .unbackedAccess := by
  rw [exec_of_writeOf hi]
  simp [transmitBody, runPhase, hp, sendStep_eq_none.mpr ⟨j, rfl, hb⟩]

/-- One exchange of the wait before a start token. -/
theorem exec_sendReady (hi : writeOf i = some (multi, final)) {w : WaitPos} (hp : s.phase = .send k (.ready w)) :
    exec i s =
      .next (busyWaited w (.send k .token) (.finish .onDrive .timeout) (.send k (.ready .again)) s) := by
  rw [exec_send hi hp rfl, sendReady_eq]

end

/-- Settles O29: each position is one action of the block. -/
theorem writtenBlockIsSentByteByByte : Obligations.WrittenBlockIsSentByteByByte := by
  intro i multi final k s hi
  refine ⟨fun wp hp => exec_sendReady hi hp, fun hp => exec_send hi hp rfl, fun j hp hb => ?_,
    fun j hp hb => exec_send_unbacked hi hp hb, fun hp => exec_send hi hp rfl, fun hp => exec_send hi hp rfl⟩
  exact exec_send hi hp (if_pos hb)

/-- The low five bits of a byte, as a mask and as a remainder (42_data_transfer.md R97). -/
theorem and_0x1F_eq_iff (b : Byte) {v : Nat} (hv : v < 256) : b &&& 0x1F#8 = BitVec.ofNat 8 v ↔ b.toNat % 32 = v := by
  rw [← BitVec.toNat_inj, BitVec.toNat_and, BitVec.toNat_ofNat (x := v), Nat.mod_eq_of_lt hv]
  exact Eq.congr_left (Nat.and_two_pow_sub_one_eq_mod b.toNat 5)

/-- How the data response decides (42_data_transfer.md R97). -/
theorem dataResponse_eq (dr : Byte) :
    dataResponse dr =
      if dr.toNat % 32 = 0x05 then none
      else if dr.toNat % 32 = 0x0B then some ⟨.write, .crc, true⟩
      else if dr.toNat % 32 = 0x0D then some ⟨.write, .error, false⟩
      else some ⟨.write, .token, true⟩ := by
  simp only [dataResponse, and_0x1F_eq_iff dr (v := 0x05) (by decide), and_0x1F_eq_iff dr (v := 0x0B) (by decide),
    and_0x1F_eq_iff dr (v := 0x0D) (by decide)]

/-- An accepted block (42_data_transfer.md R97, R99). -/
theorem sendResponse_accepted {dr : Byte} (multi final : Bool) (k : Nat) {s : State} (ha : s.answer = dr)
    (h : dr.toNat % 32 = 5) :
    sendResponse multi final k s =
      { s.exchange 0xFF#8 with
        dtoken := dr
        addr := s.addr + 512#32
        xfer := s.xfer + 1#16
        phase := sendBlock multi final s.count (k + 1) } := by
  simp only [sendResponse, dataResponse_eq, ha, if_pos h]

/-- Settles O30: `dataResponse_eq`, and what a block's end goes on to. -/
theorem dataResponseIsRecognised : Obligations.DataResponseIsRecognised := by
  intro i multi final k s hi hp dr low
  have hstep : exec i s = .next (sendResponse multi final k s) := exec_send hi hp rfl
  rw [hstep]
  constructor
  · intro h
    rw [sendResponse_accepted multi final k rfl h]
    simp only [sendBlock, afterBlocks, Bool.and_eq_true, Bool.not_eq_true', decide_eq_true_eq]
    rfl
  · intro h f
    have hrejected : dataResponse s.answer = some f := by
      rw [dataResponse_eq, if_neg h]
      simp only [f, low, dr]
      split_ifs <;> rfl
    simp only [sendResponse, hrejected]
    rfl

/-! ## The actions after the blocks (42_data_transfer.md R98, R99) -/

section
variable {i : Instr} {multi final : Bool} {s : State}

/-- A write at a position of StopSeq takes StopSeq's action. -/
theorem exec_stop (hi : writeOf i = some (multi, final)) {o : Option Failure} {p : StopPos}
    (hp : s.phase = .stop o p) : exec i s = .next (stopNext o (stopStep p s)) := by
  rw [exec_of_writeOf hi]
  simp [transmitBody, runPhase, hp]

/-- One exchange of the wait of StopSeq. -/
theorem exec_stopReady (hi : writeOf i = some (multi, final)) {o : Option Failure} {w : WaitPos}
    (hp : s.phase = .stop o (.ready w)) :
    exec i s = .next (busyWaited w (.stop o .token) (stopTimeout o) (.stop o (.ready .again)) s) := by
  rw [exec_stop hi hp, stopNext_ready_eq]

theorem exec_stopFailed (hi : writeOf i = some (multi, final)) {f : Failure} (hp : s.phase = .stopFailed f) :
    exec i s = .next ((s.setRetryable false).setPhase (.finish .onDrive f.cls)) := by
  rw [exec_of_writeOf hi]
  simp [transmitBody, runPhase, hp]

theorem exec_needsCheck (hi : writeOf i = some (multi, final)) (hp : s.phase = .needsCheck) :
    exec i s = .next (s.setNeedsCheck.setPhase finishOk) := by
  rw [exec_of_writeOf hi]
  simp [transmitBody, runPhase, hp]

end

/-- Settles O31: each position is one action of StopSeq or of what follows it. -/
theorem stopSequenceEndsAMultipleWrite : Obligations.StopSequenceEndsAMultipleWrite := by
  intro i multi final o s hi
  refine ⟨fun wp hp => ?_, fun hp => exec_stop hi hp, fun hp => ?_, fun f hp => exec_stopFailed hi hp,
    fun hp => exec_needsCheck hi hp⟩
  · rw [exec_stopReady hi hp]
    cases o <;> rfl
  · rw [exec_stop hi hp]
    cases o <;> rfl

end Sys2Proof.Machine
end

section
/-! PROOFS. What a step of a data operation leaves unchanged (42_data_transfer.md R95, R96, R100), and how ADDR follows
XFER through a whole run (R103 item 2): one inversion for the reads and one for the writes, and every fact from it. -/

namespace Sys2Proof.Machine

/-! ## The steps of a read and of a write, inverted once -/

/-- Everything a step of RECEIVE or RECV_SHORT can be (42_data_transfer.md R94 to R96). -/
inductive ReadStep (i : Instr) (n : Nat) (s : State) : State → Prop where
  | idle (hp : s.phase = .idle) : ReadStep i n s s
  | decoded (hp : s.phase = .decode) (legal : Bool) : ReadStep i n s (s.decodeTo legal .clearXfer)
  | finished {e : ErrCode} {c : CompletionClass} (hp : s.phase = .finish e c) : ReadStep i n s (s.finish e c)
  | cleared (hp : s.phase = .clearXfer) (p : Phase) : ReadStep i n s (startData p s)
  | packet {k : Nat} {p : RecvPos} {r : State × RecvNext} (hp : s.phase = .recv k p) (hr : recvStep n p s = some r) :
    ReadStep i n s (readNext i k r)
  | failed {f : Failure} (hp : s.phase = .recvFailed f) (p : Phase)
      (hq : p = .autoStop f .start ∨ ∃ e c, p = .finish e c) :
    ReadStep i n s ((s.setRetryable f.retryable).setPhase p)
  | stopping {f : Failure} {p : CmdPos} (hi : i = .receive) (hp : s.phase = .autoStop f p) :
    ReadStep i n s (autoStopStep f p s)

theorem readStep_of_exec {i : Instr} {n : Nat} {s t : State} (hi : packetLength i = some n) (h : exec i s = .next t) :
    ReadStep i n s t := by
  obtain ⟨hp, rfl⟩ | ⟨hp, rfl⟩ | ⟨e, c, hp, rfl⟩ | ⟨hp, -⟩ := exec_cases h
  · exact .idle hp
  · have hfirst : firstAction i = .clearXfer := by
      obtain ⟨rfl, -⟩ | ⟨len, rfl, -⟩ := cases_of_packetLength hi <;> rfl
    exact hfirst ▸ .decoded hp _
  · exact .finished hp
  obtain ⟨rfl, rfl⟩ | ⟨len, rfl, rfl⟩ := cases_of_packetLength hi
  · replace h : execReceive s = .next t := h
    rw [execReceive, runPhase_of_isAction hp] at h
    split at h
    next hp => cases h; exact .cleared hp _
    next k p hp =>
      split at h <;> cases h
      next hr => exact readNext_receive k _ ▸ .packet hp hr
    next hp => cases h; exact .failed hp _ (.inl rfl)
    next hp => cases h; exact .stopping rfl hp
    next => cases h
  · replace h : execRecvShort len s = .next t := h
    rw [execRecvShort, runPhase_of_isAction hp] at h
    split at h
    next hp => cases h; exact .cleared hp _
    next k p hp =>
      split at h <;> cases h
      next hr => exact readNext_recvShort len k _ ▸ .packet hp hr
    next hp => cases h; exact .failed hp _ (.inr ⟨_, _, rfl⟩)
    next => cases h

/-- Everything a step of a TRANSMIT operation can be (42_data_transfer.md R98, R99). -/
inductive WriteStep (multi final : Bool) (s : State) : State → Prop where
  | idle (hp : s.phase = .idle) : WriteStep multi final s s
  | decoded (hp : s.phase = .decode) (legal : Bool) : WriteStep multi final s (s.decodeTo legal .clearXfer)
  | finished {e : ErrCode} {c : CompletionClass} (hp : s.phase = .finish e c) : WriteStep multi final s (s.finish e c)
  | cleared (hp : s.phase = .clearXfer) (p : Phase) : WriteStep multi final s (startData p s)
  | block {k : Nat} {p : SendPos} {t : State} (hp : s.phase = .send k p) (ht : sendStep multi final k p s = some t) :
    WriteStep multi final s t
  | stopping {o : Option Failure} {p : StopPos} (hp : s.phase = .stop o p) :
    WriteStep multi final s (stopNext o (stopStep p s))
  | stopFailed {f : Failure} (hp : s.phase = .stopFailed f) :
    WriteStep multi final s ((s.setRetryable false).setPhase (.finish .onDrive f.cls))
  | checked (hp : s.phase = .needsCheck) : WriteStep multi final s (s.setNeedsCheck.setPhase finishOk)

theorem writeStep_of_exec {i : Instr} {multi final : Bool} {s t : State} (hi : writeOf i = some (multi, final))
    (h : exec i s = .next t) : WriteStep multi final s t := by
  rw [exec_of_writeOf hi] at h
  obtain ⟨hp, rfl⟩ | ⟨hp, rfl⟩ | ⟨e, c, hp, rfl⟩ | ⟨-, -, -, h⟩ := runPhase_cases h
  · exact .idle hp
  · exact .decoded hp _
  · exact .finished hp
  · split at h
    next hp => cases h; exact .cleared hp _
    next hp =>
      split at h <;> cases h
      next ht => exact .block hp ht
    next hp => cases h; exact .stopping hp
    next hp => cases h; exact .stopFailed hp
    next hp => cases h; exact .checked hp
    next => cases h

/-- What follows an action of RecvPacket only moves `phase`. -/
theorem exists_readNext (i : Instr) (k : Nat) (r : State × RecvNext) : ∃ q, readNext i k r = r.1.setPhase q := by
  obtain ⟨s, p | _ | f⟩ := r <;> exact ⟨_, rfl⟩

/-- What follows an action of StopSeq only moves `phase`. -/
theorem exists_stopNext (o : Option Failure) (r : State × StopNext) : ∃ q, stopNext o r = r.1.setPhase q := by
  obtain ⟨s, p | _ | _⟩ := r
  · exact ⟨_, rfl⟩
  all_goals cases o <;> exact ⟨_, rfl⟩

/-! ## The frame of the reads (42_data_transfer.md R95, R96) -/

/-- The command's registers and STOPPED, which only the automatic stop writes in a read (42_data_transfer.md R94). -/
structure CommandKept (s t : State) : Prop where
  resp : t.resp = s.resp
  respx : t.respx = s.respx
  crc7 : t.crc7 = s.crc7
  attempt : t.attempt = s.attempt
  cs : t.cs = s.cs
  attempts : t.status.attempts = s.status.attempts
  stopped : t.status.stopped = s.status.stopped

/-- After an action of the automatic stop: CmdCore's frame, but for RETRYABLE and STOPPED (42_data_transfer.md R94). -/
theorem autoStopStep_keeps (f : Failure) (p : CmdPos) (s : State) :
    (autoStopStep f p s).mem = s.mem ∧ (autoStopStep f p s).addr = s.addr ∧ (autoStopStep f p s).xfer = s.xfer ∧
      (autoStopStep f p s).status.needsCheck = s.status.needsCheck := by
  have hframe := cmdStep_frame 12#6 0#32 .r1b p s
  unfold autoStopStep
  generalize cmdStep 12#6 0#32 .r1b p s = r at hframe
  obtain ⟨u, q | cls⟩ := r
  · exact ⟨hframe.mem, hframe.addr, hframe.xfer, hframe.needsCheck⟩
  · simp only [autoStopNext]
    split <;> exact ⟨hframe.mem, hframe.addr, hframe.xfer, hframe.needsCheck⟩

section
variable {i : Instr} {n : Nat} {s t : State}

/-- A read stores at a data byte alone (42_data_transfer.md R93). -/
theorem ReadStep.mem (h : ReadStep i n s t) :
    (∃ k j, s.phase = .recv k (.data j) ∧ t.mem = s.mem.write (dataAddr s j).toNat s.answer) ∨
      ((∀ k j, s.phase ≠ .recv k (.data j)) ∧ t.mem = s.mem) := by
  cases h with
  | packet hp hr =>
    obtain ⟨q, hq⟩ := exists_readNext i _ _
    rw [hq, hp]
    obtain ⟨-, ⟨j, rfl, -, hm⟩ | ⟨hj, hm⟩⟩ := recvStep_frame hr
    · exact .inl ⟨_, j, rfl, hm⟩
    · exact .inr ⟨fun k j hkj => hj j (Phase.recv.inj hkj).2, hm⟩
  | stopping hi hp => exact .inr ⟨by simp [hp], (autoStopStep_keeps ..).1⟩
  | decoded hp legal => exact .inr ⟨by simp [hp], by cases legal <;> rfl⟩
  | idle hp | finished hp | cleared hp | failed hp => exact .inr ⟨by simp [hp], rfl⟩

theorem ReadStep.needsCheck (h : ReadStep i n s t) : t.status.needsCheck = s.status.needsCheck := by
  cases h with
  | packet hp hr =>
    obtain ⟨q, hq⟩ := exists_readNext i _ _
    rw [hq]
    exact (recvStep_frame hr).1.needsCheck
  | stopping => exact (autoStopStep_keeps ..).2.2.2
  | decoded hp legal => cases legal <;> rfl
  | idle | finished | cleared | failed => rfl

/-- Outside its automatic stop a read keeps the command's registers. -/
theorem ReadStep.commandKept (h : ReadStep i n s t) (hstop : i = .receive → ∀ f p, s.phase ≠ .autoStop f p) :
    CommandKept s t := by
  cases h with
  | packet hp hr =>
    obtain ⟨q, hq⟩ := exists_readNext i _ _
    rw [hq]
    obtain ⟨hf, -⟩ := recvStep_frame hr
    exact ⟨hf.resp, hf.respx, hf.crc7, hf.attempt, hf.cs, hf.attempts, hf.stopped⟩
  | stopping hi hp => exact absurd hp (hstop hi _ _)
  | decoded hp legal => cases legal <;> exact ⟨rfl, rfl, rfl, rfl, rfl, rfl, rfl⟩
  | idle | finished | cleared | failed => exact ⟨rfl, rfl, rfl, rfl, rfl, rfl, rfl⟩

/-- Only a failed packet and its automatic stop write RETRYABLE (42_data_transfer.md R94, R96). -/
theorem ReadStep.retryable (h : ReadStep i n s t) (hfailed : ∀ f, s.phase ≠ .recvFailed f)
    (hstop : ∀ f p, s.phase ≠ .autoStop f p) : t.status.retryable = s.status.retryable := by
  cases h with
  | packet hp hr =>
    obtain ⟨q, hq⟩ := exists_readNext i _ _
    rw [hq]
    exact (recvStep_frame hr).1.retryable
  | stopping hi hp => exact absurd hp (hstop _ _)
  | failed hp => exact absurd hp (hfailed _)
  | decoded hp legal => cases legal <;> rfl
  | idle | finished | cleared => rfl

end

/-- Settles O28: the facts of `ReadStep` put together. -/
theorem readOperationsFrame : Obligations.ReadOperationsFrame := by
  intro i n s t hi h
  have hs := readStep_of_exec hi h
  refine ⟨fun k j hp => ?_, fun hp => ?_, hs.needsCheck, fun hne => ?_, fun hfailed hstop => ?_⟩
  · obtain ⟨k', j', hp', hm⟩ | ⟨hno, -⟩ := hs.mem
    · obtain ⟨-, rfl⟩ : k = k' ∧ j = j' := by simpa [hp] using hp'
      have ht : ∀ a, t.byteAt a = (s.storeByte (dataAddr s j) s.answer).byteAt a := State.byteAt_congr hm
      exact ⟨fun a ha => (ht a).trans (State.byteAt_storeByte_of_ne s _ a _ ha),
        fun hw => (ht _).trans (State.byteAt_storeByte_self s _ _ hw)⟩
    · exact absurd hp (hno k j)
  · obtain ⟨k, j, hp', -⟩ | ⟨-, hm⟩ := hs.mem
    · exact absurd hp' (hp k j)
    · exact State.byteAt_congr hm
  · obtain ⟨h1, h2, h3, h4, h5, h6, h7⟩ := hs.commandKept (fun hi => absurd hi hne)
    exact ⟨h1, h2, h3, h4, h5, h6, h7⟩
  · obtain ⟨h1, h2, h3, h4, h5, h6, h7⟩ := hs.commandKept (fun _ => hstop)
    exact ⟨h1, h2, h3, h4, h5, h6, h7, hs.retryable hfailed hstop⟩

/-! ## The frame of the writes (42_data_transfer.md R100) -/

/-- What no step of a write changes. -/
structure WriteKept (s t : State) : Prop where
  mem : t.mem = s.mem
  resp : t.resp = s.resp
  respx : t.respx = s.respx
  crc7 : t.crc7 = s.crc7
  crc16Rx : t.crc16Rx = s.crc16Rx
  attempt : t.attempt = s.attempt
  cs : t.cs = s.cs
  attempts : t.status.attempts = s.status.attempts
  derr : t.status.derr = s.status.derr

theorem SendFrame.writeKept {s t : State} (h : SendFrame s t) : WriteKept s t :=
  ⟨h.mem, h.resp, h.respx, h.crc7, h.crc16Rx, h.attempt, h.cs, h.attempts, h.derr⟩

theorem StopFrame.writeKept {s t : State} (h : StopFrame s t) : WriteKept s t :=
  ⟨h.mem, h.resp, h.respx, h.crc7, h.crc16Rx, h.attempt, h.cs, h.attempts, h.derr⟩

/-- A written block moves ADDR, XFER and DTOKEN at its response alone (42_data_transfer.md R99). -/
theorem sendStep_blockRegisters {multi final : Bool} {k : Nat} {p : SendPos} {s t : State} (hp : p ≠ .response)
    (h : sendStep multi final k p s = some t) : t.addr = s.addr ∧ t.xfer = s.xfer ∧ t.dtoken = s.dtoken := by
  cases p with
  | ready w =>
    cases h
    rw [sendReady_eq]
    exact ⟨rfl, rfl, rfl⟩
  | data j =>
    simp only [sendStep] at h
    split at h <;> cases h
    exact ⟨rfl, rfl, rfl⟩
  | token | crcHi | crcLo =>
    cases h
    exact ⟨rfl, rfl, rfl⟩
  | response => exact absurd rfl hp

/-- Before its response a written block goes on, or ends the operation by its ready wait (42_data_transfer.md R99). -/
theorem sendStep_phase {multi final : Bool} {k : Nat} {p : SendPos} {s t : State} (hp : p ≠ .response)
    (h : sendStep multi final k p s = some t) : t.phase = .finish .onDrive .timeout ∨ ∃ q, t.phase = .send k q := by
  cases p with
  | ready w =>
    cases h
    rw [sendReady_eq, busyWaited]
    split_ifs
    · exact .inr ⟨_, rfl⟩
    · exact .inl rfl
    · exact .inr ⟨_, rfl⟩
  | data j =>
    simp only [sendStep] at h
    split at h <;> cases h
    exact .inr ⟨_, rfl⟩
  | token | crcHi | crcLo =>
    cases h
    exact .inr ⟨_, rfl⟩
  | response => exact absurd rfl hp

section
variable {multi final : Bool} {s t : State}

theorem WriteStep.kept (h : WriteStep multi final s t) : WriteKept s t := by
  cases h with
  | block hp ht => exact (sendStep_frame ht).writeKept
  | @stopping o p hp =>
    obtain ⟨q, hq⟩ := exists_stopNext o (stopStep p s)
    have hkept := (stopStep_frame p s).writeKept
    rw [hq]
    exact ⟨hkept.mem, hkept.resp, hkept.respx, hkept.crc7, hkept.crc16Rx, hkept.attempt, hkept.cs, hkept.attempts,
      hkept.derr⟩
  | decoded hp legal => cases legal <;> exact ⟨rfl, rfl, rfl, rfl, rfl, rfl, rfl, rfl, rfl⟩
  | idle | finished | cleared | stopFailed | checked => exact ⟨rfl, rfl, rfl, rfl, rfl, rfl, rfl, rfl, rfl⟩

theorem WriteStep.blockRegisters (h : WriteStep multi final s t) (hresponse : ∀ k, s.phase ≠ .send k .response)
    (hclear : s.phase ≠ .clearXfer) : t.addr = s.addr ∧ t.xfer = s.xfer ∧ t.dtoken = s.dtoken := by
  cases h with
  | @block k p t hp ht =>
    refine sendStep_blockRegisters (fun hr => hresponse k ?_) ht
    rw [hp, hr]
  | @stopping o p hp =>
    obtain ⟨q, hq⟩ := exists_stopNext o (stopStep p s)
    have hframe := stopStep_frame p s
    rw [hq]
    exact ⟨hframe.addr, hframe.xfer, hframe.dtoken⟩
  | cleared hp => exact absurd hp hclear
  | decoded hp legal => cases legal <;> exact ⟨rfl, rfl, rfl⟩
  | idle | finished | stopFailed | checked => exact ⟨rfl, rfl, rfl⟩

end

/-- Settles O35: the facts of `WriteStep` put together. -/
theorem writeOperationsFrame : Obligations.WriteOperationsFrame := by
  intro i multi final s t hi h
  have hs := writeStep_of_exec hi h
  obtain ⟨hm, h1, h2, h3, h4, h5, h6, h7, h8⟩ := hs.kept
  exact ⟨State.byteAt_congr hm, h1, h2, h3, h4, h5, h6, h7, h8, hs.blockRegisters⟩

/-! ## ADDR follows XFER (42_data_transfer.md R103 item 2) -/

/-- Past the step that clears XFER, with `x` the value of XFER: inside block `k` it counts the `k` blocks before, and
there are more to come. -/
def Phase.AtBlock (limit x : Nat) : Phase → Prop
  | .recv k _ => x = k ∧ k < limit
  | .send k _ => x = k ∧ k < limit
  | .decode => False
  | .clearXfer => False
  | _ => True

/-- How many blocks an operation moves at most. -/
def blockLimit (i : Instr) (count : BitVec 16) : Nat :=
  match i with
  | .recvShort _ => 1
  | _ => count.toNat

theorem blockLimit_lt (i : Instr) (count : BitVec 16) : blockLimit i count < 2 ^ 16 := by
  unfold blockLimit
  split
  · decide
  · exact count.isLt

/-- The invariant of a data operation's run from ADDR `a`. -/
structure AddrFollows (bytes a : Word) (limit : Nat) (s : State) : Prop where
  addr : s.addr = a + bytes * s.xfer.setWidth 32
  block : s.phase.AtBlock limit s.xfer.toNat

section
variable {bytes a : Word} {limit : Nat} {s t : State}

/-- A step that moves neither ADDR nor XFER. -/
theorem AddrFollows.stays (h : AddrFollows bytes a limit s) (ha : t.addr = s.addr) (hx : t.xfer = s.xfer)
    (hp : t.phase.AtBlock limit s.xfer.toNat) : AddrFollows bytes a limit t :=
  ⟨by rw [ha, hx, h.addr], by rwa [hx]⟩

/-- A step that counts a block: below the limit XFER does not wrap. -/
theorem AddrFollows.counts (h : AddrFollows bytes a limit s) (hlimit : limit < 2 ^ 16) (hlt : s.xfer.toNat < limit)
    (ha : t.addr = s.addr + bytes) (hx : t.xfer = s.xfer + 1#16) (hp : t.phase.AtBlock limit (s.xfer.toNat + 1)) :
    AddrFollows bytes a limit t := by
  have hn : (s.xfer + 1#16).toNat = s.xfer.toNat + 1 :=
    toNat_xfer_add_one (c := BitVec.ofNat 16 limit) (by rwa [BitVec.toNat_ofNat, Nat.mod_eq_of_lt hlimit])
  have hwide : (s.xfer + 1#16).setWidth 32 = s.xfer.setWidth 32 + 1#32 := by
    apply BitVec.eq_of_toNat_eq
    have := s.xfer.isLt
    simp only [BitVec.toNat_setWidth, hn, BitVec.toNat_add, BitVec.toNat_ofNat]
    omega
  refine ⟨?_, by rwa [hx, hn]⟩
  rw [ha, hx, h.addr, hwide, BitVec.mul_add, BitVec.mul_one, BitVec.add_assoc]

theorem atBlock_sendBlock {multi final : Bool} {count : BitVec 16} (k : Nat) :
    (sendBlock multi final count k).AtBlock count.toNat k := by
  unfold sendBlock afterBlocks
  split_ifs
  · exact ⟨rfl, ‹_›⟩
  all_goals trivial

/-- RecvPacket moves ADDR exactly when the packet is good (42_data_transfer.md R93). -/
theorem recvStep_addr {n : Nat} {p : RecvPos} {r : State × RecvNext} (h : recvStep n p s = some r) :
    r.1.addr = if r.2 = .good then s.addr + BitVec.ofNat 32 n else s.addr := by
  cases p with
  | token w =>
    cases h
    rw [recvToken_eq]
    dsimp only
    split
    · split <;> rfl
    · split <;> rfl
  | data j =>
    simp only [recvStep] at h
    split at h <;> cases h
    rfl
  | crcHi =>
    cases h
    rfl
  | crcLo =>
    cases h
    unfold recvCrcLo
    dsimp only
    split <;> rfl

theorem atBlock_autoStopStep (f : Failure) (p : CmdPos) (s : State) (limit x : Nat) :
    (autoStopStep f p s).phase.AtBlock limit x := by
  unfold autoStopStep
  obtain ⟨u, q | cls⟩ := cmdStep 12#6 0#32 .r1b p s
  · trivial
  · simp only [autoStopNext]
    split <;> trivial

theorem atBlock_stopNext (o : Option Failure) (r : State × StopNext) (limit x : Nat) :
    (stopNext o r).phase.AtBlock limit x := by
  obtain ⟨u, q | _ | _⟩ := r
  · trivial
  all_goals cases o <;> trivial

/-- A step of a read keeps the invariant: a good packet counts, and nothing else moves ADDR or XFER. -/
theorem AddrFollows.read {i : Instr} {n : Nat} (h : AddrFollows (BitVec.ofNat 32 n) a (blockLimit i s.count) s)
    (hs : ReadStep i n s t) : AddrFollows (BitVec.ofNat 32 n) a (blockLimit i s.count) t := by
  have hblock := h.block
  cases hs with
  | idle => exact h
  | decoded hp => simp [hp, Phase.AtBlock] at hblock
  | cleared hp => simp [hp, Phase.AtBlock] at hblock
  | finished => exact h.stays rfl rfl trivial
  | failed hp p hq => exact h.stays rfl rfl (by obtain rfl | ⟨e, c, rfl⟩ := hq <;> trivial)
  | stopping =>
    obtain ⟨-, haddr, hxfer, -⟩ := autoStopStep_keeps ..
    exact h.stays haddr hxfer (atBlock_autoStopStep ..)
  | @packet k p r hp hr =>
    rw [hp] at hblock
    obtain ⟨hx, hk⟩ := hblock
    have haddr := recvStep_addr hr
    have hcount := (recvStep_frame hr).1.count
    cases recvStep_outcome hr with
    | goOn _ hx' => exact h.stays haddr hx' ⟨hx, hk⟩
    | failed _ hx' => exact h.stays haddr hx' trivial
    | good hx' =>
      refine h.counts (blockLimit_lt ..) (hx ▸ hk) haddr hx' ?_
      simp only [readNext, State.setPhase_phase]
      split
      next hnext =>
        obtain ⟨rfl, hlt⟩ := hnext
        exact ⟨congrArg (· + 1) hx, hcount ▸ hlt⟩
      next => trivial

/-- A step of a write keeps the invariant: an accepted block counts, and nothing else moves ADDR or XFER. -/
theorem AddrFollows.write {multi final : Bool} (h : AddrFollows 512#32 a s.count.toNat s)
    (hs : WriteStep multi final s t) : AddrFollows 512#32 a s.count.toNat t := by
  have hblock := h.block
  cases hs with
  | idle => exact h
  | decoded hp => simp [hp, Phase.AtBlock] at hblock
  | cleared hp => simp [hp, Phase.AtBlock] at hblock
  | finished | stopFailed | checked => exact h.stays rfl rfl trivial
  | @stopping o p =>
    obtain ⟨q, hq⟩ := exists_stopNext o (stopStep p s)
    have hframe := stopStep_frame p s
    exact h.stays (hq ▸ hframe.addr) (hq ▸ hframe.xfer) (atBlock_stopNext ..)
  | @block k p t hp ht =>
    rw [hp] at hblock
    obtain ⟨hx, hk⟩ := hblock
    by_cases hresponse : p = .response
    · subst hresponse
      cases ht
      unfold sendResponse
      dsimp only
      split
      · exact h.counts s.count.isLt (hx ▸ hk) rfl rfl (hx.symm ▸ atBlock_sendBlock (k + 1))
      · exact h.stays rfl rfl (by cases multi <;> trivial)
    · obtain ⟨haddr, hxfer, -⟩ := sendStep_blockRegisters hresponse ht
      refine h.stays haddr hxfer ?_
      obtain hq | ⟨q, hq⟩ := sendStep_phase hresponse ht
      · rw [hq]
        trivial
      · rw [hq]
        exact ⟨hx, hk⟩

end

/-- A property that every step of an operation keeps holds at the end of a run. -/
theorem execRun_keeps {i : Instr} {P : State → Prop} (hstep : ∀ s t, P s → exec i s = .next t → P t) {n : Nat}
    {s t : State} (hs : P s) (h : execRun i n s = .next t) : P t := by
  induction n generalizing s with
  | zero =>
    cases h
    exact hs
  | succ n ih =>
    rw [execRun] at h
    split at h
    next u hu => exact ih (hstep s u hs hu) h
    all_goals cases h

theorem cases_of_blockBytes {i : Instr} {bytes : Word} (hi : blockBytes i = some bytes) :
    (∃ n, packetLength i = some n ∧ bytes = BitVec.ofNat 32 n) ∨
      (∃ multi final, writeOf i = some (multi, final)) ∧ bytes = 512#32 := by
  cases i with
  | receive =>
    cases hi
    exact .inl ⟨512, rfl, rfl⟩
  | recvShort len =>
    cases hi
    exact .inl ⟨len.toNat, rfl, (BitVec.ofNat_toNat 32 len).symm⟩
  | transmit | transmitM | transmitMF =>
    cases hi
    exact .inr ⟨⟨_, _, rfl⟩, rfl⟩
  | _ => cases hi

theorem AddrFollows.exec {i : Instr} {bytes a : Word} (hi : blockBytes i = some bytes) {s t : State}
    (h : AddrFollows bytes a (blockLimit i s.count) s) (he : exec i s = .next t) :
    AddrFollows bytes a (blockLimit i t.count) t := by
  rw [(exec_sameHostSide he).count]
  obtain ⟨n, hn, rfl⟩ | ⟨⟨multi, final, hw⟩, rfl⟩ := cases_of_blockBytes hi
  · exact h.read (readStep_of_exec hn he)
  · have hlimit : blockLimit i s.count = s.count.toNat := by
      obtain ⟨rfl, -⟩ | ⟨rfl, -⟩ | ⟨rfl, -⟩ := cases_of_writeOf hw <;> rfl
    rw [hlimit] at h ⊢
    exact h.write (writeStep_of_exec hw he)

theorem atBlock_dataStart {i : Instr} {bytes : Word} (hi : blockBytes i = some bytes) (count : BitVec 16) :
    (dataStart i count).AtBlock (blockLimit i count) 0 := by
  cases i with
  | receive =>
    simp only [dataStart, recvBlock]
    split
    · exact ⟨rfl, ‹_›⟩
    · trivial
  | transmit | transmitM | transmitMF => exact atBlock_sendBlock 0
  | recvShort len => exact ⟨rfl, Nat.one_pos⟩
  | _ => cases hi

/-- Settles O36: `AddrFollows` holds once XFER is cleared, and every step keeps it. -/
theorem addrDeltaIsBlocksTransferred : Obligations.AddrDeltaIsBlocksTransferred := by
  intro i bytes n s t hi hl hp h
  rw [Nat.add_comm, execRun_add (execRun_dataStart hi hl hp)] at h
  have hstart : AddrFollows bytes s.addr (blockLimit i s.count) (startData (dataStart i s.count) s) :=
    ⟨by simp [startData], atBlock_dataStart hi s.count⟩
  exact (execRun_keeps (P := fun u => AddrFollows bytes s.addr (blockLimit i u.count) u)
    (fun u v hu hv => hu.exec hi hv) hstart h).addr

end Sys2Proof.Machine
end

section
/-! PROOFS. Whole reads (42_data_transfer.md R93 to R96): a packet is the run of its start token, its data bytes and its
CRC, and a RECEIVE the run of its packets; and the automatic stop of a failed RECEIVE (R94), a run of CmdCore. -/

namespace Sys2Proof.Machine

/-! ## Bytes of host memory one after another (20_memory.md R34, R35) -/

/-- Host memory with the bytes stored from the 32-bit address `a` on, addresses mod 2^32. -/
def Memory.writeBytes (m : Memory) (a : Word) : List Byte → Memory
  | [] => m
  | b :: bytes => Memory.writeBytes (m.write a.toNat b) (a + 1#32) bytes

theorem add_ofNat_succ (a : Word) (j : Nat) : a + BitVec.ofNat 32 (j + 1) = a + 1#32 + BitVec.ofNat 32 j := by
  rw [Nat.add_comm, BitVec.ofNat_add, BitVec.add_assoc]

theorem Memory.writeBytes_append (m : Memory) (a : Word) (xs ys : List Byte) :
    m.writeBytes a (xs ++ ys) = (m.writeBytes a xs).writeBytes (a + BitVec.ofNat 32 xs.length) ys := by
  induction xs generalizing m a with
  | nil => simp [Memory.writeBytes]
  | cons b xs ih =>
    rw [List.cons_append, Memory.writeBytes, Memory.writeBytes, ih, List.length_cons, add_ofNat_succ a xs.length]

/-- A byte outside the addresses stored to is as before. -/
theorem Memory.read_writeBytes_of_ne (m : Memory) {a x : Word} {bytes : List Byte}
    (h : ∀ j, j < bytes.length → x ≠ a + BitVec.ofNat 32 j) : (m.writeBytes a bytes).read x.toNat = m.read x.toNat := by
  induction bytes generalizing m a with
  | nil => rfl
  | cons b bytes ih =>
    have hx : x ≠ a := by simpa using h 0 (by simp)
    rw [Memory.writeBytes, ih]
    · exact Memory.read_write_of_ne m _ _ b (fun he => hx (BitVec.eq_of_toNat_eq he))
    · intro j hj
      rw [← add_ofNat_succ]
      exact h (j + 1) (Nat.succ_lt_succ hj)

/-- Fewer than 2^32 consecutive addresses do not come round to the first. -/
theorem ne_add_one_add_ofNat (a : Word) {j : Nat} (hj : j + 1 < 2 ^ 32) : a ≠ a + 1#32 + BitVec.ofNat 32 j := by
  rw [← add_ofNat_succ]
  intro h
  have hzero : BitVec.ofNat 32 (j + 1) = 0#32 := by simpa using h.symm
  rw [← BitVec.toNat_inj, BitVec.toNat_ofNat, Nat.mod_eq_of_lt hj] at hzero
  exact Nat.succ_ne_zero j hzero

/-- Byte `j` of the bytes stored reads back. -/
theorem Memory.read_writeBytes {m : Memory} (hw : m.wf = true) (a : Word) {bytes : List Byte}
    (hlen : bytes.length ≤ 2 ^ 32) {j : Nat} (hj : j < bytes.length) :
    (m.writeBytes a bytes).read (a + BitVec.ofNat 32 j).toNat = bytes[j] := by
  induction bytes generalizing m a j with
  | nil => cases hj
  | cons b bytes ih =>
    rw [List.length_cons] at hlen hj
    have hwrite : (m.write a.toNat b).wf = true := Memory.write_wf m _ b a.isLt hw
    cases j with
    | zero =>
      have hfirst : ∀ j, j < bytes.length → a ≠ a + 1#32 + BitVec.ofNat 32 j :=
        fun j hj => ne_add_one_add_ofNat a (by omega)
      rw [Memory.writeBytes, BitVec.add_zero, Memory.read_writeBytes_of_ne _ hfirst]
      exact Memory.read_write_self m _ b hw
    | succ j =>
      rw [Memory.writeBytes, add_ofNat_succ a j]
      exact ih hwrite _ (Nat.le_of_succ_le hlen) (Nat.lt_of_succ_lt_succ hj)

/-- What a state has in memory after such a store: the bytes, and all others as before. -/
theorem State.bytesFrom_of_writeBytes {s t : State} {a : Word} {bytes : List Byte}
    (hm : t.mem = s.mem.writeBytes a bytes) (hw : s.mem.wf = true) (hlen : bytes.length ≤ 2 ^ 32) :
    t.bytesFrom a bytes.length = bytes ∧
      ∀ x, (∀ j, j < bytes.length → x ≠ a + BitVec.ofNat 32 j) → t.byteAt x = s.byteAt x := by
  constructor
  · refine List.ext_getElem (by simp [State.bytesFrom]) fun j _ hj => ?_
    simp only [State.bytesFrom, List.getElem_map, List.getElem_range, State.byteAt, hm]
    exact Memory.read_writeBytes hw a hlen hj
  · intro x hx
    rw [State.byteAt, hm]
    exact Memory.read_writeBytes_of_ne s.mem hx

/-! ## The registers of a data operation (42_data_transfer.md R92 to R99) -/

/-- What a data operation writes besides the wire. -/
structure DataRegs where
  addr : Word
  xfer : BitVec 16
  dtoken : Byte
  crc16 : BitVec 16
  crc16Rx : BitVec 16
  t0 : Word
  mem : Memory
  status : Status
  phase : Phase

def State.dataRegs (s : State) : DataRegs :=
  ⟨s.addr, s.xfer, s.dtoken, s.crc16, s.crc16Rx, s.t0, s.mem, s.status, s.phase⟩

/-- The state with these registers. -/
def State.withData (g : DataRegs) (s : State) : State :=
  { s with
    addr := g.addr, xfer := g.xfer, dtoken := g.dtoken, crc16 := g.crc16, crc16Rx := g.crc16Rx, t0 := g.t0
    mem := g.mem, status := g.status, phase := g.phase }

section
variable (g g' : DataRegs) (s : State)

@[simp] theorem State.dataRegs_withData : (s.withData g).dataRegs = g := rfl
@[simp] theorem State.withData_withData : (s.withData g).withData g' = s.withData g' := rfl
@[simp] theorem State.withData_addr : (s.withData g).addr = g.addr := rfl
@[simp] theorem State.withData_xfer : (s.withData g).xfer = g.xfer := rfl
@[simp] theorem State.withData_crc16 : (s.withData g).crc16 = g.crc16 := rfl
@[simp] theorem State.withData_mem : (s.withData g).mem = g.mem := rfl
@[simp] theorem State.withData_phase : (s.withData g).phase = g.phase := rfl
@[simp] theorem State.withData_count : (s.withData g).count = s.count := rfl
@[simp] theorem State.withData_card : (s.withData g).card = s.card := rfl
@[simp] theorem State.withData_ticks : (s.withData g).ticks = s.ticks := rfl
@[simp] theorem State.withData_backed (a : Word) : (s.withData g).backed a = s.backed a := rfl

@[simp] theorem State.afterExchanges_count (tx : List Byte) : (s.afterExchanges tx).count = s.count := rfl
@[simp] theorem State.afterExchanges_backed (tx : List Byte) (a : Word) : (s.afterExchanges tx).backed a = s.backed a :=
  rfl

theorem State.withData_exchange (b : Byte) : (s.withData g).exchange b = (s.exchange b).withData g := rfl

@[simp] theorem State.withData_afterExchanges (tx : List Byte) :
    (s.withData g).afterExchanges tx = (s.afterExchanges tx).withData g := by
  induction tx generalizing s with
  | nil => rfl
  | cons b tx ih => rw [State.afterExchanges_cons, State.afterExchanges_cons, State.withData_exchange, ih]

end

/-- One run after another. -/
theorem execRun_trans {i : Instr} {m n : Nat} {s t u : State} (h : execRun i m s = .next t)
    (h' : execRun i n t = .next u) : execRun i (m + n) s = .next u :=
  (execRun_add h n).trans h'

theorem execRun_one {i : Instr} {s t : State} (h : exec i s = .next t) : execRun i 1 s = .next t :=
  execRun_succ h 0

/-! ## The parts of a packet (42_data_transfer.md R93) -/

section
variable {i : Instr} {n k : Nat} {s : State} {rest : List Byte}

/-- An idle byte of the start-token wait, before the limit (42_data_transfer.md R92). -/
theorem exec_recvIdle (hi : packetLength i = some n) (hn : 0 < n) {w : WaitPos} (hp : s.phase = .recv k (.token w))
    (h : s.answer = 0xFF#8) (hlt : (s.ticks - waitStart w s).toNat < s.toutRead.toNat) :
    exec i s =
      .next
        ((s.exchange 0xFF#8).withData
          { s.dataRegs with t0 := waitStart w s, phase := .recv k (.token .again) }) := by
  obtain ⟨hidle, -⟩ := startTokenIsRecognised i n k w s hi hn hp
  exact hidle h hlt

/-- The start token (42_data_transfer.md R92). -/
theorem exec_recvStart (hi : packetLength i = some n) (hn : 0 < n) {w : WaitPos} (hp : s.phase = .recv k (.token w))
    (h : s.answer = 0xFE#8) :
    exec i s =
      .next
        ((s.exchange 0xFF#8).withData
          { s.dataRegs with
            t0 := waitStart w s, dtoken := 0xFE#8, crc16 := 0#16, phase := .recv k (.data 0) }) := by
  obtain ⟨-, -, hstart, -⟩ := startTokenIsRecognised i n k w s hi hn hp
  exact hstart h

/-- The start token, after idle bytes that come before any tick; by induction on their number. -/
theorem execRun_startToken (hi : packetLength i = some n) (hn : 0 < n) {m : Nat} (hlimit : m = 0 ∨ s.toutRead ≠ 0#32)
    {w : WaitPos} (hw : waitStart w s = s.ticks) (hp : s.phase = .recv k (.token w))
    (hc : s.card = List.replicate m 0xFF#8 ++ 0xFE#8 :: rest) :
    execRun i (m + 1) s =
      .next
        ((s.afterExchanges (List.replicate (m + 1) 0xFF#8)).withData
          { s.dataRegs with t0 := s.ticks, dtoken := 0xFE#8, crc16 := 0#16, phase := .recv k (.data 0) }) := by
  induction m generalizing s w with
  | zero =>
    rw [List.replicate_one, State.afterExchanges_singleton, ← hw]
    exact execRun_one (exec_recvStart hi hn hp (State.answer_of_card hc))
  | succ m ih =>
    have hne : s.toutRead ≠ 0#32 := hlimit.resolve_left (Nat.succ_ne_zero m)
    have hpos : (s.ticks - waitStart w s).toNat < s.toutRead.toNat := by
      rw [hw, BitVec.sub_self]
      exact Nat.pos_of_ne_zero (fun h => hne (BitVec.eq_of_toNat_eq h))
    have hidle := exec_recvIdle hi hn hp (State.answer_of_card hc) hpos
    rw [hw] at hidle
    have hrest := ih (s := (s.exchange 0xFF#8).withData { s.dataRegs with t0 := s.ticks, phase := .recv k (.token .again) })
      (w := .again) (.inr hne) rfl rfl (by simp [hc])
    rw [execRun_succ hidle, hrest, State.afterExchanges_idle (m + 1), State.withData_afterExchanges]
    rfl

theorem dataAddr_zero (s : State) : dataAddr s 0 = s.addr := BitVec.add_zero _

/-- The data bytes from byte `j` on, stored and taken into the CRC16 (42_data_transfer.md R93); by induction on them. -/
theorem execRun_recvData (hi : packetLength i = some n) (hb : ∀ a, s.backed a = true) {j : Nat} {data : List Byte}
    (hj : j + data.length = n) (hp : s.phase = .recv k (dataFrom n j)) (hc : s.card = data ++ rest) :
    execRun i data.length s =
      .next
        ((s.afterExchanges (List.replicate data.length 0xFF#8)).withData
          { s.dataRegs with
            mem := s.mem.writeBytes (dataAddr s j) data
            crc16 := data.foldl crc16Update s.crc16
            phase := .recv k .crcHi }) := by
  induction data generalizing s j with
  | nil =>
    have hend : dataFrom n j = .crcHi := if_neg (by simp at hj; omega)
    rw [hend] at hp
    simp only [← hp]
    rfl
  | cons d data ih =>
    rw [List.length_cons] at hj ⊢
    have hlt : j < n := by omega
    have hstep : exec i s =
        .next
          ((s.exchange 0xFF#8).withData
            { s.dataRegs with
              mem := s.mem.write (dataAddr s j).toNat d
              crc16 := crc16Update s.crc16 d
              phase := .recv k (dataFrom n (j + 1)) }) := by
      rw [dataFrom, if_pos hlt] at hp
      rw [exec_recv hi hp (if_pos (hb _)), recvData, State.answer_of_card hc]
      rfl
    have haddr : dataAddr s (j + 1) = dataAddr s j + 1#32 := by
      rw [dataAddr, dataAddr, BitVec.ofNat_add, BitVec.add_assoc]
    have hrest := ih (s := (s.exchange 0xFF#8).withData
      { s.dataRegs with
        mem := s.mem.write (dataAddr s j).toNat d
        crc16 := crc16Update s.crc16 d
        phase := .recv k (dataFrom n (j + 1)) }) (j := j + 1) hb (by omega) rfl (by simp [hc])
    rw [execRun_succ hstep, hrest, State.afterExchanges_idle, State.withData_afterExchanges, Memory.writeBytes, ← haddr]
    rfl

/-- A CRC16 is its two bytes, high byte first (30_encoding.md R59). -/
theorem crc16_of_bytes (c : BitVec 16) :
    (c.extractLsb' 8 8).setWidth 16 <<< 8 ||| (c.extractLsb' 0 8).setWidth 16 = c := by
  ext j hj
  simp only [BitVec.getElem_or, BitVec.getElem_shiftLeft, BitVec.getElem_setWidth, BitVec.getLsbD_extractLsb']
  by_cases h : j < 8
  · simp [h, BitVec.getLsbD_eq_getElem hj]
  · have hsum : 8 + (j - 8) = j := by omega
    simp [h, hsum, BitVec.getLsbD_eq_getElem hj]
    omega

/-- The two CRC bytes of a good packet (42_data_transfer.md R93). -/
theorem execRun_recvCrc (hi : packetLength i = some n) (hp : s.phase = .recv k .crcHi)
    (hc : s.card = s.crc16.extractLsb' 8 8 :: s.crc16.extractLsb' 0 8 :: rest) :
    execRun i 2 s =
      .next
        ((s.afterExchanges (List.replicate 2 0xFF#8)).withData
          { s.dataRegs with
            crc16Rx := s.crc16
            addr := s.addr + BitVec.ofNat 32 n
            xfer := s.xfer + 1#16
            phase := if i = .receive ∧ k + 1 < s.count.toNat then .recv (k + 1) (.token .first) else finishOk }) := by
  have hhi : exec i s =
      .next
        ((s.exchange 0xFF#8).withData
          { s.dataRegs with crc16Rx := (s.crc16.extractLsb' 8 8).setWidth 16 <<< 8, phase := .recv k .crcLo }) := by
    rw [exec_recv hi hp rfl, recvCrcHi, State.answer_of_card hc]
    rfl
  rw [execRun_succ hhi, State.afterExchanges_idle, List.replicate_one, State.afterExchanges_singleton]
  generalize hu : (s.exchange 0xFF#8).withData _ = u
  have hanswer : u.answer = s.crc16.extractLsb' 0 8 := State.answer_of_card (rest := rest) (by simp [← hu, hc])
  have hcheck : u.crc16Rx ||| u.answer.setWidth 16 = u.crc16 := by
    rw [hanswer, ← hu]
    exact crc16_of_bytes s.crc16
  have hlo : exec i u = .next (readNext i k (recvCrcLo n u)) := exec_recv hi (by rw [← hu]; rfl) rfl
  rw [recvCrcLo_good n hcheck] at hlo
  rw [execRun_one hlo, ← hu]
  rfl

/-- A whole good packet, from its wait on (42_data_transfer.md R93). -/
theorem execRun_packet (hi : packetLength i = some n) (hn : 0 < n) (hb : ∀ a, s.backed a = true) {m : Nat}
    (hlimit : m = 0 ∨ s.toutRead ≠ 0#32) {data : List Byte} (hlen : data.length = n)
    (hp : s.phase = .recv k (.token .first)) (hc : s.card = List.replicate m 0xFF#8 ++ goodPacket data ++ rest) :
    execRun i (m + n + 3) s =
      .next
        ((s.afterExchanges (List.replicate (m + n + 3) 0xFF#8)).withData
          { s.dataRegs with
            t0 := s.ticks
            dtoken := 0xFE#8
            mem := s.mem.writeBytes s.addr data
            crc16 := crc16Of data
            crc16Rx := crc16Of data
            addr := s.addr + BitVec.ofNat 32 n
            xfer := s.xfer + 1#16
            phase := if i = .receive ∧ k + 1 < s.count.toNat then .recv (k + 1) (.token .first) else finishOk }) := by
  have hcard : s.card = List.replicate m 0xFF#8 ++ 0xFE#8 :: (data ++
      ((crc16Of data).extractLsb' 8 8 :: (crc16Of data).extractLsb' 0 8 :: rest)) := by
    simp [hc, goodPacket]
  have htoken := execRun_startToken hi hn hlimit rfl hp hcard
  have hcard1 : (s.afterExchanges (List.replicate (m + 1) 0xFF#8)).card = data ++
      ((crc16Of data).extractLsb' 8 8 :: (crc16Of data).extractLsb' 0 8 :: rest) :=
    State.card_afterExchanges (taken := List.replicate m 0xFF#8 ++ [0xFE#8]) (by simp [hcard]) (by simp)
  have hstored : execRun i (m + 1 + data.length) s =
      .next
        ((s.afterExchanges (List.replicate (m + 1 + data.length) 0xFF#8)).withData
          { s.dataRegs with
            t0 := s.ticks
            dtoken := 0xFE#8
            mem := s.mem.writeBytes s.addr data
            crc16 := crc16Of data
            phase := .recv k .crcHi }) := by
    refine (execRun_trans htoken (execRun_recvData hi (by exact hb) (j := 0) ((Nat.zero_add _).trans hlen)
      (by rw [dataFrom, if_pos hn]; rfl) hcard1)).trans ?_
    rw [State.withData_afterExchanges, ← State.afterExchanges_append, List.replicate_append_replicate, dataAddr_zero]
    rfl
  have hcard2 : (s.afterExchanges (List.replicate (m + 1 + data.length) 0xFF#8)).card =
      (crc16Of data).extractLsb' 8 8 :: (crc16Of data).extractLsb' 0 8 :: rest :=
    State.card_afterExchanges (taken := List.replicate m 0xFF#8 ++ 0xFE#8 :: data) (by simp [hcard]) (by simp; omega)
  have hrun := execRun_trans hstored (execRun_recvCrc hi rfl hcard2)
  rw [State.withData_afterExchanges, ← State.afterExchanges_append, List.replicate_append_replicate, hlen,
    show m + 1 + n + 2 = m + n + 3 by omega] at hrun
  exact hrun

end

/-! ## RECV_SHORT (42_data_transfer.md R96) -/

/-- Settles O23: the start, the packet (`execRun_packet`) and `Finish`. -/
theorem recvShortStoresAGoodPacket : Obligations.RecvShortStoresAGoodPacket := by
  intro len s m data rest hwf hp hmem hlen hb hlimit hc
  obtain ⟨hpos, hmax⟩ : 1 ≤ len.toNat ∧ len.toNat ≤ 512 := by simpa [Instr.wf] using hwf
  have hlegal : legalOp (.recvShort len) s.count = true := by simp [legalOp, hwf]
  have hstart : execRun (.recvShort len) 2 s = .next (startData (.recv 0 (.token .first)) s) :=
    execRun_dataStart rfl hlegal hp
  have hpacket := execRun_trans hstart
    (execRun_packet (k := 0) (i := .recvShort len) rfl hpos (by exact hb) (by exact hlimit) hlen rfl (by exact hc))
  rw [if_neg (by simp)] at hpacket
  have hrun := execRun_trans hpacket (execRun_one (exec_finish (.recvShort len) rfl))
  rw [show 2 + (m + len.toNat + 3) + 1 = m + len.toNat + 6 by omega] at hrun
  have hcard : ((startData (.recv 0 (.token .first)) s).afterExchanges
      (List.replicate (m + len.toNat + 3) 0xFF#8)).card = rest :=
    State.card_afterExchanges (taken := List.replicate m 0xFF#8 ++ goodPacket data) hc
      (by simp [goodPacket, hlen]; omega)
  have haddr : s.addr + BitVec.ofNat 32 len.toNat = s.addr + len.setWidth 32 := by rw [BitVec.ofNat_toNat]
  refine ⟨_, hrun, rfl, rfl, rfl, haddr, rfl, rfl, rfl, hcard, ?_⟩
  rw [← hlen]
  exact State.bytesFrom_of_writeBytes rfl hmem (by omega)

/-! ## RECEIVE (42_data_transfer.md R95) -/

theorem length_flatten_of_forall {α : Type} {ls : List (List α)} {n m : Nat} (hm : ls.length = m)
    (h : ∀ l ∈ ls, l.length = n) : ls.flatten.length = n * m := by
  rw [List.length_flatten, List.map_congr_left h, List.map_const', List.sum_replicate, smul_eq_mul, hm, Nat.mul_comm]

/-- What the packets of a RECEIVE leave in the registers they write anew. -/
structure PacketRegs where
  dtoken : Byte
  crc16 : BitVec 16
  crc16Rx : BitVec 16
  t0 : Word

/-- The blocks from block `k` on, one packet after another; by induction on them. The block length stays a variable, so
that no tactic counts to 512. -/
theorem execRun_blocks {n : Nat} (hi : packetLength .receive = some n) (hn : 0 < n) {s : State} {k : Nat}
    {blocks : List (List Byte)} {rest : List Byte} (hb : ∀ a, s.backed a = true)
    (hk : k + blocks.length = s.count.toNat) (hlen : ∀ b ∈ blocks, b.length = n) (hp : s.phase = recvBlock s.count k)
    (hc : s.card = (blocks.map goodPacket).flatten ++ rest) :
    ∃ g : PacketRegs,
      execRun .receive ((n + 3) * blocks.length) s =
        .next
          ((s.afterExchanges (List.replicate ((n + 3) * blocks.length) 0xFF#8)).withData
            { s.dataRegs with
              dtoken := g.dtoken, crc16 := g.crc16, crc16Rx := g.crc16Rx, t0 := g.t0
              mem := s.mem.writeBytes s.addr blocks.flatten
              addr := s.addr + BitVec.ofNat 32 (n * blocks.length)
              xfer := s.xfer + BitVec.ofNat 16 blocks.length
              phase := finishOk }) := by
  induction blocks generalizing s k with
  | nil =>
    have hend : recvBlock s.count k = finishOk := if_neg (by simp at hk; omega)
    rw [hend] at hp
    refine ⟨⟨s.dtoken, s.crc16, s.crc16Rx, s.t0⟩, ?_⟩
    simp [execRun, Memory.writeBytes, State.withData, State.dataRegs, ← hp]
  | cons b blocks ih =>
    rw [List.forall_mem_cons] at hlen
    rw [List.length_cons] at hk ⊢
    have hnow : recvBlock s.count k = .recv k (.token .first) := if_pos (by omega)
    have hpacket := execRun_packet hi hn hb (m := 0) (.inl rfl) hlen.1 (hp.trans hnow)
      (rest := (blocks.map goodPacket).flatten ++ rest) (by simp [hc])
    have hnext : (if Instr.receive = Instr.receive ∧ k + 1 < s.count.toNat then Phase.recv (k + 1) (.token .first)
        else finishOk) = recvBlock s.count (k + 1) := by simp [recvBlock]
    rw [hnext, Nat.zero_add] at hpacket
    have hcard : (s.afterExchanges (List.replicate (n + 3) 0xFF#8)).card = (blocks.map goodPacket).flatten ++ rest :=
      State.card_afterExchanges (taken := goodPacket b) (by simp [hc]) (by simp [goodPacket, hlen.1])
    generalize hg : (DataRegs.mk _ _ _ _ _ _ _ _ _) = g at hpacket
    obtain ⟨g', hrest⟩ := ih (s := (s.afterExchanges (List.replicate (n + 3) 0xFF#8)).withData g) (k := k + 1) hb
      ((Nat.succ_add_eq_add_succ k _).trans hk) hlen.2 (by rw [← hg]; rfl) hcard
    have hrun := execRun_trans hpacket hrest
    rw [State.withData_afterExchanges, ← State.afterExchanges_append, List.replicate_append_replicate,
      show n + 3 + (n + 3) * blocks.length = (n + 3) * (blocks.length + 1) by ring] at hrun
    refine ⟨g', hrun.trans ?_⟩
    have haddr : s.addr + BitVec.ofNat 32 n + BitVec.ofNat 32 (n * blocks.length) =
        s.addr + BitVec.ofNat 32 (n * (blocks.length + 1)) := by
      rw [BitVec.add_assoc, ← BitVec.ofNat_add, Nat.mul_succ, Nat.add_comm n]
    have hxfer : s.xfer + 1#16 + BitVec.ofNat 16 blocks.length = s.xfer + BitVec.ofNat 16 (blocks.length + 1) := by
      rw [BitVec.add_assoc, ← BitVec.ofNat_add, Nat.add_comm 1]
    have hmem : (s.mem.writeBytes s.addr b).writeBytes (s.addr + BitVec.ofNat 32 n) blocks.flatten =
        s.mem.writeBytes s.addr (b :: blocks).flatten := by
      rw [List.flatten_cons, Memory.writeBytes_append, hlen.1]
    rw [State.withData_withData, ← hg, ← haddr, ← hxfer, ← hmem]
    rfl

/-- Settles O24: the start, the blocks (`execRun_blocks`) and `Finish`. -/
theorem receiveStoresEveryGoodBlock : Obligations.ReceiveStoresEveryGoodBlock := by
  intro s blocks rest hp hmem hb hcount hlen hc
  have hstart : execRun .receive 2 s = .next (startData (recvBlock s.count 0) s) := execRun_dataStart rfl rfl hp
  obtain ⟨n, hi, hn⟩ : ∃ n, packetLength .receive = some n ∧ n = 512 := ⟨_, rfl, rfl⟩
  simp only [← hn] at hlen
  obtain ⟨g, hblocks⟩ := execRun_blocks (k := 0) hi (by omega) (s := startData (recvBlock s.count 0) s) hb
    ((Nat.zero_add _).trans hcount) hlen rfl hc
  have hrun := execRun_trans (execRun_trans hstart hblocks) (execRun_one (exec_finish .receive rfl))
  have hcard : ((startData (recvBlock s.count 0) s).afterExchanges
      (List.replicate ((n + 3) * blocks.length) 0xFF#8)).card = rest := by
    refine State.card_afterExchanges (taken := (blocks.map goodPacket).flatten) hc ?_
    rw [List.length_replicate]
    refine length_flatten_of_forall (List.length_map _) fun l hl => ?_
    obtain ⟨b, hb', rfl⟩ := List.mem_map.mp hl
    simp [goodPacket, hlen b hb']
  have hflat : blocks.flatten.length = n * blocks.length := length_flatten_of_forall rfl hlen
  have hbound : n * blocks.length ≤ 2 ^ 32 := by
    have := s.count.isLt
    rw [hn, hcount]
    omega
  have hxfer : 0#16 + BitVec.ofNat 16 blocks.length = s.count := by
    rw [BitVec.zero_add, hcount, BitVec.ofNat_toNat, BitVec.setWidth_eq]
  rw [show 515 * blocks.length + 3 = 2 + (n + 3) * blocks.length + 1 by rw [hn]; omega,
    show 515 * blocks.length = (n + 3) * blocks.length by rw [hn]]
  simp only [← hn, ← hflat]
  refine ⟨_, hrun, rfl, rfl, hxfer, congrArg (s.addr + BitVec.ofNat 32 ·) hflat.symm, hcard,
    congrArg (s.draws + ·) List.length_replicate, ?_⟩
  rw [← and_assoc]
  exact ⟨State.bytesFrom_of_writeBytes rfl hmem (hflat ▸ hbound), rfl, rfl, rfl, rfl⟩

end Sys2Proof.Machine
end

section
/-! PROOFS. The automatic stop of RECEIVE (42_data_transfer.md R94): CmdCore(12, 0, R1B), whose runs are those of
SEND_CMD, ended by what the failed read makes of it. -/

namespace Sys2Proof.Machine

/-! ## One action of the stop -/

theorem exec_autoStop {f : Failure} {p : CmdPos} {s : State} (hp : s.phase = .autoStop f p) :
    exec .receive s = .next (autoStopStep f p s) := by
  simp [exec, execReceive, runPhase, hp]

/-- SEND_CMD.R1B 12 with argument 0 takes the stop's action (41_command.md R85). -/
theorem exec_sendCmdR1B_relocated (p : CmdPos) (s : State) :
    exec (.sendCmdR1B 12#6) (s.relocated 0#32 (.command p)) =
      .next (sendCmdNext (relocatedCmd 0#32 (.command p) (cmdStep 12#6 0#32 .r1b p s))) := by
  rw [← cmdStep_relocated]
  exact exec_command (kind := .r1b) rfl rfl

/-! ## Runs of the stop -/

theorem State.setRetryable_afterExchanges (v : Bool) (tx : List Byte) (s : State) :
    (s.setRetryable v).afterExchanges tx = (s.afterExchanges tx).setRetryable v :=
  State.withData_afterExchanges { s.dataRegs with status := { s.status with retryable := v } } s tx

/-- What the end of the stop makes of the record (42_data_transfer.md R94): STOPPED, and RETRYABLE kept after OK alone. -/
def State.stopEnded (cls : CompletionClass) (s : State) : State :=
  { s with
    status := { s.status with stopped := true, retryable := decide (cls = .ok) && s.status.retryable } }

section
variable {f : Failure} {n : Nat} {s t : State} {cls : CompletionClass}

/-- The stop at the position where CmdCore goes on takes CmdCore's action: no action reads `phase`. -/
theorem exec_autoStopNext_goOn (p : CmdPos) (s : State) :
    exec .receive (autoStopNext f (s, .goOn p)) = .next (autoStopNext f (cmdStep 12#6 0#32 .r1b p s)) := by
  have hmoved : cmdStep 12#6 0#32 .r1b p (s.setPhase (.autoStop f p)) =
      relocatedCmd s.arg (.autoStop f p) (cmdStep 12#6 0#32 .r1b p s) := cmdStep_relocated 12#6 0#32 .r1b p s.arg _ s
  have harg := (cmdStep_frame 12#6 0#32 .r1b p s).arg
  refine (exec_autoStop (f := f) (p := p) rfl).trans (congrArg _ ?_)
  rw [autoStopStep, autoStopNext, hmoved]
  generalize cmdStep 12#6 0#32 .r1b p s = r at harg
  rw [← harg]
  obtain ⟨u, q | cls⟩ := r
  · rfl
  · by_cases hok : cls = .ok
    · subst hok
      rfl
    · simp only [relocatedCmd, autoStopNext, if_neg hok]
      rfl

/-- A run of CmdCore is a run of the automatic stop. -/
theorem CmdRun.execRun_autoStop {a b : State × CmdNext} (h : CmdRun 12#6 0#32 .r1b n a b) :
    execRun .receive n (autoStopNext f a) = .next (autoStopNext f b) := by
  induction h with
  | refl => rfl
  | @step n p s b _ ih => rw [execRun_succ (exec_autoStopNext_goOn p s), ih]

/-- The end of a failed RECEIVE: RETRYABLE, the stop and `Finish` (42_data_transfer.md R94). -/
theorem CmdRun.execRun_of_recvFailed (hp : s.phase = .recvFailed f)
    (h : CmdRun 12#6 0#32 .r1b n (s.setRetryable f.retryable, .goOn .start) (t, .done cls)) :
    execRun .receive (n + 2) s =
      .next ((t.stopEnded cls).completedWith (if cls = .ok then f.err else .onDrive) f.cls) := by
  have hfinish : exec .receive (autoStopNext f (t, .done cls)) =
      .next ((t.stopEnded cls).completedWith (if cls = .ok then f.err else .onDrive) f.cls) := by
    by_cases hok : cls = .ok
    · simp only [autoStopNext, State.stopEnded, hok, decide_true, Bool.true_and]
      exact exec_finish .receive rfl
    · simp only [autoStopNext, State.stopEnded, hok, decide_false, Bool.false_and]
      exact exec_finish .receive rfl
  have hstop : execRun .receive n ((s.setRetryable f.retryable).setPhase (.autoStop f .start)) =
      .next (autoStopNext f (t, .done cls)) := h.execRun_autoStop
  rw [execRun_succ (exec_recvFailed_receive hp)]
  exact execRun_trans hstop (execRun_one hfinish)

end

/-- A call of CmdCore that its first R1 ends, from its start (41_command.md R74 to R80, R84). -/
theorem CmdRun.answeredCall {idx : BitVec 6} {arg : Word} {kind : RKind} (hkind : kind ≠ .noResp) {s : State}
    {during stuff stray tail busy rest : List Byte} {r1 : Byte} (hduring : during.length = 6)
    (hstuff : stuff.length = stuffBytes idx) (hlen : stray.length ≤ 7) (hstray : ∀ b ∈ stray, b.getLsbD 7 = true)
    (hresponse : EndingResponse idx kind s.toutBusy r1 tail busy)
    (hc : s.card = during ++ stuff ++ (stray ++ r1 :: (tail ++ busy ++ rest))) :
    CmdRun idx arg kind (stuff.length + (stray.length + (tail.length + busy.length + 1)) + 6) (s, .goOn .start)
      ((s.afterExchanges (frameBytes idx arg ++
            List.replicate (stuff.length + (stray.length + (tail.length + busy.length + 1))) 0xFF#8)).withCmd
          (CmdRegs.responded idx kind r1 tail s.ticks
            { s.cmdCleared with crc7 := crc7Of ((frameBytes idx arg).take 5), respx := 0#32 }),
        .done (classifyR1 (maskR1 idx r1))) := by
  have hframe := CmdRun.frameToPoll (idx := idx) (arg := arg) (g := s.cmdCleared) (s := s) hkind
  rw [← hstuff] at hframe
  have hcard : (s.afterExchanges (frameBytes idx arg ++ List.replicate stuff.length 0xFF#8)).card =
      stray ++ r1 :: (tail ++ busy ++ rest) :=
    State.card_afterExchanges hc (by simp [hduring, length_frameBytes])
  have hrun := hframe.trans (CmdRun.strayThenResponse hkind hlen hstray hresponse rfl hcard)
  rw [← State.afterExchanges_append, List.append_assoc, List.replicate_append_replicate, Nat.add_assoc,
    Nat.add_comm 6] at hrun
  exact CmdRun.of_start hrun

/-! ## The three clauses -/

/-- The CRC7 of the stop's frame. -/
theorem crc7Of_stopFrame : crc7Of ((frameBytes 12#6 0#32).take 5) = 0x30#7 := by decide +kernel

/-- Settles O25: each action of the stop is SEND_CMD's (`exec_sendCmdR1B_relocated`), and so are its runs. -/
theorem failedReceiveStopsTheCard : Obligations.FailedReceiveStopsTheCard := by
  refine ⟨fun f p s hp => ?_, ?_, ?_⟩
  · refine ⟨_, exec_sendCmdR1B_relocated p s, ?_⟩
    rw [exec_autoStop hp, autoStopStep]
    have harg := (cmdStep_frame 12#6 0#32 .r1b p s).arg
    generalize cmdStep 12#6 0#32 .r1b p s = r at harg
    rw [← harg]
    obtain ⟨u, q | cls⟩ := r
    · refine ⟨fun q' hq => ?_, nofun, nofun, .inl ⟨q, rfl⟩⟩
      cases hq
      rfl
    · by_cases hok : cls = .ok
      · subst hok
        exact ⟨nofun, fun _ => rfl, nofun, .inr (.inl rfl)⟩
      · have hend : sendCmdFinish cls = .finish .onDrive cls := if_neg hok
        refine ⟨fun q hq => ?_, fun hq => ?_, fun c hq => ?_, .inr (.inr ⟨cls, hend⟩)⟩
        · exact absurd (hend.symm.trans hq) nofun
        · exact absurd (hend.symm.trans hq) nofun
        · simp only [autoStopNext, if_neg hok]
          rfl
  · intro f s rest hp r hc
    have hexchanges : 15 * (r + 1) + r = (stuffBytes 12#6 + 15) * r + (stuffBytes 12#6 + 14) := by
      simp [stuffBytes]
      ring
    have hsteps : 15 * (r + 1) + 3 * r = (stuffBytes 12#6 + 17) * r + (stuffBytes 12#6 + 14) := by
      simp [stuffBytes]
      ring
    rw [hexchanges] at hc ⊢
    obtain ⟨c, w, hrun⟩ := CmdRun.silentAttempts (idx := 12#6) (arg := 0#32) (kind := .r1b)
      (s := s.setRetryable f.retryable) (g := s.cmdCleared) nofun (Nat.zero_add r) hc
    have hstop := (CmdRun.of_start hrun).execRun_of_recvFailed hp
    rw [CmdRegs.silent, crc7Of_stopFrame] at hstop
    rw [hsteps]
    exact ⟨_, hstop, rfl, rfl, rfl, rfl, rfl, rfl, rfl, rfl⟩
  · intro f s during stray front rest stuff r1 hp hduring hlen hstray hbit hcls hfront hlimit hc n good
    have hresponse : EndingResponse 12#6 .r1b s.toutBusy r1 [] (front ++ [0xFF#8]) :=
      ⟨hbit, hcls, rfl, nofun, fun _ => ⟨front, rfl, hfront, hlimit⟩⟩
    have hrun := (CmdRun.answeredCall (arg := 0#32) (by decide) (s := s.setRetryable f.retryable) (stuff := [stuff])
      hduring rfl hlen hstray hresponse (rest := rest) (by simp [hc])).execRun_of_recvFailed hp
    have hbytes : [stuff].length + (stray.length + (([] : List Byte).length + (front ++ [0xFF#8]).length + 1)) = n := by
      simp [n]
      omega
    have hretry : (f.retryable && decide good) = (decide good && f.retryable) := Bool.and_comm ..
    rw [hbytes, crc7Of_stopFrame, State.setRetryable_afterExchanges] at hrun
    rw [hretry]
    exact hrun

end Sys2Proof.Machine
end

section
/-! PROOFS. Whole writes (42_data_transfer.md R97 to R102): a block is the run of its ready wait, its token, its data
bytes, its CRC and its response, a TRANSMIT.M the run of its blocks, and a TRANSMIT.MF without one the run of StopSeq. -/

namespace Sys2Proof.Machine

/-! ## A busy wait (10_state.md R28) -/

/-- A busy card that is ready before any tick, for any wait of an operation; by induction on its busy bytes. -/
theorem execRun_busyWait {i : Instr} {p : WaitPos → Phase} {ready timeout : Phase}
    (hstep : ∀ w u, u.phase = p w → exec i u = .next (busyWaited w ready timeout (p .again) u)) {s : State}
    {front rest : List Byte} (hfront : ∀ b ∈ front, b ≠ 0xFF#8) (hlimit : front = [] ∨ s.toutBusy ≠ 0#32) {w : WaitPos}
    (hw : waitStart w s = s.ticks) (hp : s.phase = p w) (hc : s.card = front ++ 0xFF#8 :: rest) :
    execRun i (front.length + 1) s =
      .next
        ((s.afterExchanges (List.replicate (front.length + 1) 0xFF#8)).withData
          { s.dataRegs with t0 := s.ticks, phase := ready }) := by
  induction front generalizing s w with
  | nil =>
    have hready := hstep w s hp
    rw [busyWaited, if_pos (State.answer_of_card hc), hw] at hready
    rw [List.length_nil, List.replicate_one, State.afterExchanges_singleton]
    exact execRun_one hready
  | cons b front ih =>
    rw [List.forall_mem_cons] at hfront
    have hne : s.toutBusy ≠ 0#32 := hlimit.resolve_left (List.cons_ne_nil _ _)
    have hpos : ¬s.toutBusy.toNat ≤ (s.ticks - s.ticks).toNat := by
      rw [BitVec.sub_self]
      exact Nat.not_le.mpr (Nat.pos_of_ne_zero (fun h => hne (BitVec.eq_of_toNat_eq h)))
    have hbusy := hstep w s hp
    rw [busyWaited, hw, State.answer_of_card hc, if_neg hfront.1, if_neg hpos] at hbusy
    have hrest := ih (s := (s.exchange 0xFF#8).withData { s.dataRegs with t0 := s.ticks, phase := p .again })
      (w := .again) hfront.2 (.inr hne) rfl rfl (by simp [hc])
    rw [List.length_cons, execRun_succ hbusy, State.afterExchanges_idle (front.length + 1)]
    refine hrest.trans ?_
    rw [State.withData_afterExchanges]
    rfl

/-! ## Bytes of host memory one after another (20_memory.md R34) -/

theorem State.bytesFrom_succ (s : State) (a : Word) (n : Nat) :
    s.bytesFrom a (n + 1) = s.byteAt a :: s.bytesFrom (a + 1#32) n := by
  have hrest : ∀ j, s.byteAt (a + BitVec.ofNat 32 (j + 1)) = s.byteAt (a + 1#32 + BitVec.ofNat 32 j) := fun j => by
    rw [add_ofNat_succ a j]
  simp [State.bytesFrom, List.range_succ_eq_map, Function.comp_def, hrest]

theorem State.bytesFrom_congr {s t : State} (h : t.mem = s.mem) (a : Word) (n : Nat) :
    t.bytesFrom a n = s.bytesFrom a n := by
  simp only [State.bytesFrom, State.byteAt_congr h]

@[simp] theorem State.length_bytesFrom (s : State) (a : Word) (n : Nat) : (s.bytesFrom a n).length = n := by
  simp [State.bytesFrom]

/-! ## The parts of a written block (42_data_transfer.md R99) -/

section
variable {i : Instr} {multi final : Bool} {k : Nat} {s : State} {rest : List Byte}

/-- The position of data byte `j` of a written block, or of the CRC after the last. -/
def sendFrom (j : Nat) : SendPos := if j < 512 then .data j else .crcHi

theorem exec_sendData (hi : writeOf i = some (multi, final)) {j : Nat} (hp : s.phase = .send k (.data j))
    (hb : s.backed (dataAddr s j) = true) :
    exec i s =
      .next
        ((s.exchange (s.byteAt (dataAddr s j))).withData
          { s.dataRegs with
            crc16 := crc16Update s.crc16 (s.byteAt (dataAddr s j))
            phase := .send k (sendFrom (j + 1)) }) :=
  exec_send hi hp (if_pos hb)

/-- The data bytes from byte `j` on, from host memory into the CRC16 and on the wire; by induction on their number. -/
theorem execRun_sendData (hi : writeOf i = some (multi, final)) (hb : ∀ a, s.backed a = true) {j n : Nat}
    (hj : j + n = 512) (hp : s.phase = .send k (sendFrom j)) :
    execRun i n s =
      .next
        ((s.afterExchanges (s.bytesFrom (dataAddr s j) n)).withData
          { s.dataRegs with
            crc16 := (s.bytesFrom (dataAddr s j) n).foldl crc16Update s.crc16
            phase := .send k .crcHi }) := by
  induction n generalizing s j with
  | zero =>
    have hend : sendFrom j = .crcHi := if_neg (by omega)
    rw [hend] at hp
    rw [← hp]
    rfl
  | succ n ih =>
    rw [sendFrom, if_pos (by omega)] at hp
    have hstep := exec_sendData hi hp (hb _)
    have haddr : dataAddr s (j + 1) = dataAddr s j + 1#32 := by
      rw [dataAddr, dataAddr, BitVec.ofNat_add, BitVec.add_assoc]
    rw [execRun_succ hstep, ih (by exact hb) (by omega : j + 1 + n = 512) rfl, State.bytesFrom_succ s,
      State.afterExchanges_cons, ← haddr, State.withData_afterExchanges]
    rfl

/-- The two CRC bytes of a block. -/
theorem execRun_sendCrc (hi : writeOf i = some (multi, final)) (hp : s.phase = .send k .crcHi) :
    execRun i 2 s =
      .next
        ((s.afterExchanges [s.crc16.extractLsb' 8 8, s.crc16.extractLsb' 0 8]).withData
          { s.dataRegs with phase := .send k .response }) := by
  have hhi : exec i s =
      .next ((s.exchange (s.crc16.extractLsb' 8 8)).withData { s.dataRegs with phase := .send k .crcLo }) :=
    exec_send hi hp rfl
  rw [execRun_succ hhi, State.afterExchanges_cons, State.afterExchanges_singleton]
  exact execRun_one (exec_send hi rfl rfl)

/-- What the engine sends for a block before the byte that receives its response. -/
def sentToResponse (token : Byte) (data : List Byte) : List Byte :=
  [0xFF#8, token] ++ data ++ [(crc16Of data).extractLsb' 8 8, (crc16Of data).extractLsb' 0 8]

theorem sentBlock_eq (token : Byte) (data : List Byte) : sentBlock token data = sentToResponse token data ++ [0xFF#8] := by
  simp [sentBlock, sentToResponse]

theorem length_sentToResponse (token : Byte) (data : List Byte) :
    (sentToResponse token data).length = data.length + 4 := by
  simp [sentToResponse]

/-- A block up to its response, to a card that is ready at once. -/
theorem execRun_sendToResponse (hi : writeOf i = some (multi, final)) (hb : ∀ a, s.backed a = true) {n : Nat}
    (hn : n = 512) (hp : s.phase = .send k (.ready .first)) (ha : s.answer = 0xFF#8) :
    let data := s.bytesFrom s.addr n
    execRun i (n + 4) s =
      .next
        ((s.afterExchanges (sentToResponse (startToken multi) data)).withData
          { s.dataRegs with t0 := s.ticks, crc16 := crc16Of data, phase := .send k .response }) := by
  intro data
  have hready : exec i s =
      .next ((s.exchange 0xFF#8).withData { s.dataRegs with t0 := s.ticks, phase := .send k .token }) := by
    rw [exec_sendReady hi hp, busyWaited, if_pos ha]
    rfl
  have htoken : execRun i 2 s =
      .next
        ((s.afterExchanges [0xFF#8, startToken multi]).withData
          { s.dataRegs with t0 := s.ticks, crc16 := 0#16, phase := .send k (.data 0) }) := by
    rw [execRun_succ hready, State.afterExchanges_cons, State.afterExchanges_singleton]
    exact execRun_one (exec_send hi rfl rfl)
  have hdata : execRun i (2 + n) s =
      .next
        ((s.afterExchanges ([0xFF#8, startToken multi] ++ data)).withData
          { s.dataRegs with t0 := s.ticks, crc16 := crc16Of data, phase := .send k .crcHi }) := by
    refine (execRun_trans htoken (execRun_sendData hi (by exact hb) (j := 0) ((Nat.zero_add n).trans hn) rfl)).trans ?_
    rw [State.withData_afterExchanges, ← State.afterExchanges_append, dataAddr_zero]
    rfl
  have hrun := execRun_trans hdata (execRun_sendCrc hi rfl)
  rw [State.withData_afterExchanges, ← State.afterExchanges_append, show 2 + n + 2 = n + 4 by omega] at hrun
  exact hrun

/-- A whole block that the card accepts, ready at once (42_data_transfer.md R97, R99). -/
theorem execRun_sendBlock (hi : writeOf i = some (multi, final)) (hb : ∀ a, s.backed a = true) {n : Nat}
    (hn : n = 512) (hp : s.phase = .send k (.ready .first)) {during : List Byte} (hduring : during.length = n + 3)
    {dr : Byte} (hdr : dr.toNat % 32 = 5) (hc : s.card = [0xFF#8] ++ during ++ [dr] ++ rest) :
    execRun i (n + 5) s =
      .next
        ((s.afterExchanges (sentBlock (startToken multi) (s.bytesFrom s.addr n))).withData
          { s.dataRegs with
            t0 := s.ticks
            dtoken := dr
            crc16 := crc16Of (s.bytesFrom s.addr n)
            addr := s.addr + BitVec.ofNat 32 n
            xfer := s.xfer + 1#16
            phase := sendBlock multi final s.count (k + 1) }) := by
  have hto := execRun_sendToResponse hi hb hn hp (State.answer_of_card (rest := during ++ [dr] ++ rest) (by simp [hc]))
  have hcard : (s.afterExchanges (sentToResponse (startToken multi) (s.bytesFrom s.addr n))).card = dr :: rest :=
    State.card_afterExchanges (taken := 0xFF#8 :: during) (by simp [hc]) (by simp [hduring, length_sentToResponse])
  refine (execRun_trans hto (execRun_one (exec_send hi rfl rfl))).trans ?_
  rw [sendResponse_accepted multi final k (State.answer_of_card (by exact hcard)) hdr, sentBlock_eq,
    State.afterExchanges_append _ [0xFF#8], State.afterExchanges_singleton,
    show 512#32 = BitVec.ofNat 32 n by rw [hn]]
  rfl

/-- The end of a good write: NEEDS_CHECK and `Finish` (42_data_transfer.md R99). -/
theorem execRun_checked (hi : writeOf i = some (multi, final)) (hp : s.phase = .needsCheck) :
    execRun i 2 s =
      .next (({ s with status := { s.status with needsCheck := true } } : State).completedWith .noError .ok) := by
  rw [execRun_succ (exec_needsCheck hi hp)]
  exact execRun_one (exec_finish i rfl)

/-- StopSeq after its wait and the last block: the token, and the stuff byte with STOPPED (42_data_transfer.md R98). -/
theorem execRun_stopToken (hi : writeOf i = some (multi, final)) (hp : s.phase = .stop none .token) :
    execRun i 2 s =
      .next
        ((s.afterExchanges [0xFD#8, 0xFF#8]).withData
          { s.dataRegs with status := { s.status with stopped := true }, phase := .needsCheck }) := by
  rw [execRun_succ (exec_stop hi hp), State.afterExchanges_cons, State.afterExchanges_singleton]
  exact execRun_one (exec_stop (o := none) (p := .stuff) hi rfl)

/-- What the engine sends for `m` blocks of `n` bytes from host memory at `a` on. -/
def sentBlocks (token : Byte) (s : State) (a : Word) (n m : Nat) : List Byte :=
  (List.range m).flatMap fun k => sentBlock token (s.bytesFrom (a + BitVec.ofNat 32 (n * k)) n)

theorem sentBlocks_succ (token : Byte) (s : State) (a : Word) (n m : Nat) :
    sentBlocks token s a n (m + 1) =
      sentBlock token (s.bytesFrom a n) ++ sentBlocks token s (a + BitVec.ofNat 32 n) n m := by
  have hnext : ∀ k, a + BitVec.ofNat 32 (n * (k + 1)) = a + BitVec.ofNat 32 n + BitVec.ofNat 32 (n * k) := fun k => by
    rw [Nat.mul_succ, Nat.add_comm, BitVec.ofNat_add, BitVec.add_assoc]
  simp [sentBlocks, List.range_succ_eq_map, List.flatMap_map, hnext]

theorem length_sentBlocks (token : Byte) (s : State) (a : Word) (n m : Nat) :
    (sentBlocks token s a n m).length = (n + 5) * m := by
  rw [sentBlocks, List.flatMap_def]
  refine length_flatten_of_forall (by simp) fun l hl => ?_
  obtain ⟨k, -, rfl⟩ := List.mem_map.mp hl
  simp [sentBlock]

theorem sentBlocks_congr {s t : State} (h : t.mem = s.mem) (token : Byte) (a : Word) (n m : Nat) :
    sentBlocks token t a n m = sentBlocks token s a n m := by
  simp only [sentBlocks, State.bytesFrom_congr h]

/-- The card's bytes for one accepted block of `n` data bytes: ready at once, and a response that accepts. -/
def Accepts (n : Nat) (l : List Byte) : Prop :=
  ∃ during dr, l = [0xFF#8] ++ during ++ [dr] ∧ during.length = n + 3 ∧ dr.toNat % 32 = 5

theorem Accepts.length {n : Nat} {l : List Byte} (h : Accepts n l) : l.length = n + 5 := by
  obtain ⟨during, dr, rfl, hduring, -⟩ := h
  simp [hduring]

/-- The blocks from block `k` on, one after another; by induction on the card's answers to them. -/
theorem execRun_sendBlocks (hi : writeOf i = some (multi, final)) (hb : ∀ a, s.backed a = true) {n : Nat} (hn : n = 512)
    {answers : List (List Byte)} (hk : k + answers.length = s.count.toNat) (hacc : ∀ l ∈ answers, Accepts n l)
    (hp : s.phase = sendBlock multi final s.count k) (hc : s.card = answers.flatten ++ rest) :
    ∃ dtoken crc16 t0,
      execRun i ((n + 5) * answers.length) s =
        .next
          ((s.afterExchanges (sentBlocks (startToken multi) s s.addr n answers.length)).withData
            { s.dataRegs with
              dtoken := dtoken, crc16 := crc16, t0 := t0
              addr := s.addr + BitVec.ofNat 32 (n * answers.length)
              xfer := s.xfer + BitVec.ofNat 16 answers.length
              phase := afterBlocks multi final s.count }) := by
  induction answers generalizing s k with
  | nil =>
    have hend : sendBlock multi final s.count k = afterBlocks multi final s.count := if_neg (by simp at hk; omega)
    rw [hend] at hp
    refine ⟨s.dtoken, s.crc16, s.t0, ?_⟩
    simp [execRun, sentBlocks, State.withData, State.dataRegs, ← hp]
  | cons l answers ih =>
    rw [List.forall_mem_cons] at hacc
    rw [List.length_cons] at hk ⊢
    obtain ⟨during, dr, rfl, hduring, hdr⟩ := hacc.1
    have hnow : sendBlock multi final s.count k = .send k (.ready .first) := if_pos (by omega)
    have hblock := execRun_sendBlock hi hb hn (hp.trans hnow) hduring hdr (rest := answers.flatten ++ rest)
      (by simp [hc])
    have hcard : (s.afterExchanges (sentBlock (startToken multi) (s.bytesFrom s.addr n))).card =
        answers.flatten ++ rest :=
      State.card_afterExchanges (taken := [0xFF#8] ++ during ++ [dr]) (by simp [hc]) (by simp [hduring, sentBlock])
    generalize hg : (DataRegs.mk _ _ _ _ _ _ _ _ _) = g at hblock
    obtain ⟨dtoken, crc16, t0, hrest⟩ := ih (k := k + 1)
      (s := (s.afterExchanges (sentBlock (startToken multi) (s.bytesFrom s.addr n))).withData g) hb
      ((Nat.succ_add_eq_add_succ k _).trans hk) hacc.2 (by rw [← hg]; rfl) hcard
    have hrun := execRun_trans hblock hrest
    have haddr : s.addr + BitVec.ofNat 32 n + BitVec.ofNat 32 (n * answers.length) =
        s.addr + BitVec.ofNat 32 (n * (answers.length + 1)) := by
      rw [BitVec.add_assoc, ← BitVec.ofNat_add, Nat.mul_succ, Nat.add_comm n]
    have hxfer : s.xfer + 1#16 + BitVec.ofNat 16 answers.length = s.xfer + BitVec.ofNat 16 (answers.length + 1) := by
      rw [BitVec.add_assoc, ← BitVec.ofNat_add, Nat.add_comm 1]
    refine ⟨dtoken, crc16, t0, ?_⟩
    rw [show (n + 5) * (answers.length + 1) = n + 5 + (n + 5) * answers.length by ring, hrun,
      State.withData_afterExchanges, ← State.afterExchanges_append, State.withData_withData,
      sentBlocks_congr (s := s) (by rw [← hg]; rfl), sentBlocks_succ, ← haddr, ← hxfer, ← hg]
    rfl

end

/-! ## The whole operations -/

/-- Clearing XFER commutes with the exchanges after it. -/
theorem startData_afterExchanges (p : Phase) (tx : List Byte) (s : State) :
    (startData p s).afterExchanges tx = startData p (s.afterExchanges tx) :=
  State.withData_afterExchanges { s.dataRegs with xfer := 0#16, phase := p } s tx

/-- Scripted answers are taken in their order. -/
theorem State.answers_of_card {s : State} {taken rest : List Byte} (hc : s.card = taken ++ rest) :
    s.answers taken.length = taken := by
  induction taken generalizing s with
  | nil => rfl
  | cons b taken ih =>
    rw [List.length_cons, State.answers, State.answer_of_card hc]
    exact congrArg _ (ih (by simp [hc]))

/-- The events of exchanges with scripted answers (20_memory.md R39). -/
theorem State.wire_afterExchanges {s : State} {tx taken rest : List Byte} (hc : s.card = taken ++ rest)
    (hlen : taken.length = tx.length) : (s.afterExchanges tx).wire = xchgEvents s.cs (tx.zip taken) ++ s.wire := by
  rw [State.afterExchanges, ← hlen, State.answers_of_card hc]

/-- Settles O32: the start, the block (`execRun_sendBlock`), NEEDS_CHECK and `Finish`. -/
theorem transmitSendsOneBlock : Obligations.TransmitSendsOneBlock := by
  intro s dr during rest hp hcount hb hduring hdr hc
  obtain ⟨n, hn⟩ : ∃ n, n = 512 := ⟨_, rfl⟩
  have hfirst : dataStart .transmit s.count = .send 0 (.ready .first) := by rw [hcount]; rfl
  have hnext : sendBlock false false s.count (0 + 1) = .needsCheck := by rw [hcount]; rfl
  have hstart : execRun .transmit 2 s = .next (startData (.send 0 (.ready .first)) s) := by
    rw [execRun_dataStart (i := .transmit) rfl (by simp [legalOp, Instr.wf, hcount]) hp, hfirst]
  have hblock : execRun .transmit (2 + (n + 5)) s =
      .next
        ((s.afterExchanges (sentBlock 0xFE#8 (s.bytesFrom s.addr n))).withData
          { s.dataRegs with
            t0 := s.ticks
            dtoken := dr
            crc16 := crc16Of (s.bytesFrom s.addr n)
            xfer := 1#16
            addr := s.addr + BitVec.ofNat 32 n
            phase := .needsCheck }) := by
    refine (execRun_trans hstart (execRun_sendBlock (i := .transmit) rfl (by exact hb) hn rfl
      (by omega : during.length = n + 3) hdr hc)).trans ?_
    rw [startData_afterExchanges, ← hnext]
    rfl
  have hrun := execRun_trans hblock (execRun_checked (i := .transmit) rfl rfl)
  rw [show 521 = 2 + (n + 5) + 2 by omega]
  simp only [← hn]
  exact hrun

/-- Settles O33: the start, the blocks (`execRun_sendBlocks`) and `Finish`. -/
theorem transmitMStreamsEveryBlock : Obligations.TransmitMStreamsEveryBlock := by
  intro s answers rest hp hb hcount hacc hc
  obtain ⟨n, hn⟩ : ∃ n, n = 512 := ⟨_, rfl⟩
  replace hacc : ∀ l ∈ answers, Accepts n l := fun l hl => by
    obtain ⟨during, dr, h1, h2, h3⟩ := hacc l hl
    exact ⟨during, dr, h1, by omega, h3⟩
  have hstart : execRun .transmitM 2 s = .next (startData (sendBlock true false s.count 0) s) :=
    execRun_dataStart rfl rfl hp
  obtain ⟨dtoken, crc16, t0, hblocks⟩ := execRun_sendBlocks (k := 0) (i := .transmitM) rfl
    (s := startData (sendBlock true false s.count 0) s) hb hn ((Nat.zero_add _).trans hcount) hacc rfl hc
  have hrun := execRun_trans (execRun_trans hstart hblocks) (execRun_one (exec_finish .transmitM rfl))
  have hlen : answers.flatten.length = (n + 5) * answers.length :=
    length_flatten_of_forall rfl fun l hl => (hacc l hl).length
  have hsent : (sentBlocks (startToken true) s s.addr n answers.length).length = answers.flatten.length :=
    (length_sentBlocks ..).trans hlen.symm
  have hxfer : 0#16 + BitVec.ofNat 16 answers.length = s.count := by
    rw [BitVec.zero_add, hcount, BitVec.ofNat_toNat, BitVec.setWidth_eq]
  rw [startData_afterExchanges, sentBlocks_congr (t := startData _ s) (s := s) rfl] at hrun
  rw [show 517 * answers.length + 3 = 2 + (n + 5) * answers.length + 1 by rw [hn]; omega]
  simp only [← hn]
  refine ⟨_, hrun, rfl, rfl, hxfer, rfl, State.card_afterExchanges hc hsent.symm,
    State.wire_afterExchanges hc hsent.symm, fun _ => rfl⟩

/-- Settles O34: the start, the wait of StopSeq (`execRun_busyWait`), its two bytes, NEEDS_CHECK and `Finish`. -/
theorem transmitMFWithNoBlockOnlyStops : Obligations.TransmitMFWithNoBlockOnlyStops := by
  intro s front rest a b hp hcount hfront hlimit hc
  have hfirst : dataStart .transmitMF s.count = .stop none (.ready .first) := by rw [hcount]; rfl
  have hstart : execRun .transmitMF 2 s = .next (startData (.stop none (.ready .first)) s) := by
    rw [execRun_dataStart (i := .transmitMF) rfl rfl hp, hfirst]
  have hready : execRun .transmitMF (2 + (front.length + 1)) s =
      .next
        ((s.afterExchanges (List.replicate (front.length + 1) 0xFF#8)).withData
          { s.dataRegs with t0 := s.ticks, xfer := 0#16, phase := .stop none .token }) := by
    refine (execRun_trans hstart (execRun_busyWait (p := fun w => .stop none (.ready w))
      (fun w u hu => exec_stopReady (i := .transmitMF) rfl hu) hfront (by exact hlimit) rfl rfl (rest := a :: b :: rest)
      (by simp [startData, hc]))).trans ?_
    rw [startData_afterExchanges]
    rfl
  have hstop : execRun .transmitMF (2 + (front.length + 1) + 2) s =
      .next
        ((s.afterExchanges (List.replicate (front.length + 1) 0xFF#8 ++ [0xFD#8, 0xFF#8])).withData
          { s.dataRegs with
            t0 := s.ticks, xfer := 0#16, status := { s.status with stopped := true }, phase := .needsCheck }) := by
    rw [State.afterExchanges_append]
    exact execRun_trans hready (execRun_stopToken (i := .transmitMF) rfl rfl)
  have hrun := execRun_trans hstop (execRun_checked (i := .transmitMF) rfl rfl)
  rw [show 2 + (front.length + 1) + 2 + 2 = front.length + 7 by omega] at hrun
  exact hrun

end Sys2Proof.Machine
end

section
/-! PROOFS. The bus-control operations (43_bus_control.md R104 to R108): each operation's actions, and its whole run as
the run of its body between the decode step and `Finish`. -/

namespace Sys2Proof.Machine

/-! ## A whole operation (30_encoding.md R52, 60_exceptions.md R109) -/

/-- A legal operation is its decode step, the run of its body to the position of its `Finish`, and `Finish`. -/
theorem execRun_of_body {i : Instr} {n : Nat} {s t : State} {err : ErrCode} {cls : CompletionClass}
    (hl : legalOp i s.count = true) (hp : s.phase = .decode)
    (h : execRun i n (s.setPhase (firstAction i)) = .next (t.setPhase (.finish err cls))) :
    execRun i (n + 2) s = .next (t.completedWith err cls) := by
  have hdecode : exec i s = .next (s.setPhase (firstAction i)) := by
    rw [exec_decode i hp, hl, State.decodeTo_true]
  rw [execRun_succ hdecode]
  exact execRun_trans h (execRun_one (exec_finish i rfl))

theorem State.setPhase_afterExchanges (p : Phase) (tx : List Byte) (s : State) :
    (s.setPhase p).afterExchanges tx = (s.afterExchanges tx).setPhase p :=
  State.withData_afterExchanges { s.dataRegs with phase := p } s tx

/-! ## SELECT, DESELECT and RESYNC -/

theorem chipSelectOp_chipSelect (v : Bool) {s : State} (hp : s.phase = .chipSelect) :
    chipSelectOp v s = .next ((s.driveCs v).setPhase finishOk) := by
  simp [chipSelectOp, runPhase, hp]

theorem exec_resync {p : ResyncPos} {s : State} (hp : s.phase = .resync p) :
    exec .resync s = .next (resyncNext (resyncStep p s)) := by
  simp [exec, execResync, runPhase, hp]

/-- The three actions of RESYNC (41_command.md R81). -/
theorem execRun_resync {s : State} (hp : s.phase = .resync .low) :
    execRun .resync 3 s = .next ((((s.driveCs false).exchange 0xFF#8).driveCs true).setPhase finishOk) := by
  rw [execRun_succ (exec_resync hp), execRun_succ (exec_resync (p := .clock) rfl)]
  exact execRun_one (exec_resync (p := .high) rfl)

/-- Settles O37: each action by itself, and each whole operation by `execRun_of_body`. -/
theorem chipSelectOperationsDriveTheLine : Obligations.ChipSelectOperationsDriveTheLine := by
  intro s
  refine ⟨fun hp => ⟨chipSelectOp_chipSelect true hp, chipSelectOp_chipSelect false hp⟩,
    fun hp => ⟨?_, ?_, ?_⟩, exec_resync, exec_resync, exec_resync⟩
  · exact execRun_of_body rfl hp (execRun_one (chipSelectOp_chipSelect true (s := s.setPhase .chipSelect) rfl))
  · exact execRun_of_body rfl hp (execRun_one (chipSelectOp_chipSelect false (s := s.setPhase .chipSelect) rfl))
  · exact execRun_of_body rfl hp (execRun_resync rfl)

/-! ## IDLE -/

section
variable {n : BitVec 11} {s : State} {k : Nat}

theorem exec_idleByte (hp : s.phase = .idleByte k) :
    exec (.idle n) s =
      .next ((s.exchange 0xFF#8).setPhase (if k + 1 < n.toNat then .idleByte (k + 1) else finishOk)) := by
  simp [exec, execIdle, runPhase, hp]

/-- The idle byte number `k` and the `m` after it, which are the last; by induction on `m`. -/
theorem execRun_idleBytes {m : Nat} (hk : k + (m + 1) = n.toNat) (hp : s.phase = .idleByte k) :
    execRun (.idle n) (m + 1) s =
      .next ((s.afterExchanges (List.replicate (m + 1) 0xFF#8)).setPhase finishOk) := by
  induction m generalizing s k with
  | zero =>
    have hlast := exec_idleByte (n := n) hp
    rw [if_neg (by omega)] at hlast
    rw [List.replicate_one, State.afterExchanges_singleton]
    exact execRun_one hlast
  | succ m ih =>
    have hmore := exec_idleByte (n := n) hp
    rw [if_pos (by omega)] at hmore
    rw [execRun_succ hmore, ih (by omega) rfl, State.setPhase_afterExchanges, State.afterExchanges_idle (m + 1)]
    rfl

end

/-- Settles O38: each idle byte by itself, and a legal N as the run of its bytes (`execRun_idleBytes`). -/
theorem idleExchangesNBytes : Obligations.IdleExchangesNBytes := by
  intro n s
  refine ⟨fun k => exec_idleByte, fun hwf hp => execRun_of_body (by simp [legalOp, hwf]) hp ?_⟩
  obtain ⟨hpos, -⟩ : 1 ≤ n.toNat ∧ n.toNat ≤ Config.idleMax := by simpa [Instr.wf] using hwf
  obtain ⟨m, hm⟩ := Nat.exists_eq_add_of_le' hpos
  have hbytes := execRun_idleBytes (s := s.setPhase (.idleByte 0)) ((Nat.zero_add _).trans hm.symm) rfl
  rw [State.setPhase_afterExchanges] at hbytes
  rw [hm]
  exact hbytes

/-! ## WAIT_READY -/

theorem exec_waitReady {w : WaitPos} {s : State} (hp : s.phase = .waitReady w) :
    exec .waitReady s = .next (busyWaited w finishOk (.finish .onDrive .timeout) (.waitReady .again) s) := by
  rw [exec_waitReady_at hp, waitReadyStep_eq]

/-- Settles O39: each exchange by itself, and a whole wait by `execRun_busyWait`; with the limit 0 a busy card's first
byte is the last. -/
theorem waitReadyWaitsForTheCard : Obligations.WaitReadyWaitsForTheCard := by
  intro s
  refine ⟨fun w => exec_waitReady, fun front rest hp hfront hlimit hc => execRun_of_body rfl hp ?_,
    fun hp hlimit hbusy => execRun_of_body rfl hp ?_⟩
  · rw [List.append_assoc] at hc
    have hwait := execRun_busyWait (s := s.setPhase (.waitReady .first)) (fun _ _ => exec_waitReady) hfront hlimit
      (w := .first) rfl rfl hc
    rw [State.setPhase_afterExchanges] at hwait
    exact hwait
  · have hprobe := exec_waitReady (s := s.setPhase (.waitReady .first)) rfl
    rw [busyWaited, if_neg (by exact hbusy), if_pos (by simp [hlimit])] at hprobe
    exact execRun_one hprobe

end Sys2Proof.Machine
end

section
/-! PROOFS. Completion (60_exceptions.md R109 to R117): what `Finish` writes, that BUSY falls only there, at the decode of
an illegal word and at a reset, the completion table, and the interrupt output. -/

namespace Sys2Proof.Machine

/-! ## `Finish` (60_exceptions.md R109) -/

/-- Settles O41: `exec_finish` for every operation, and an idle engine's turn. -/
theorem finishWritesTheRecordAndStops : Obligations.FinishWritesTheRecordAndStops :=
  fun i _ _ _ hp => ⟨exec_finish i hp, engineTurn_of_idle rfl⟩

/-! ## When BUSY falls -/

theorem writeSlot_busy {sl : Slot} {w : Word} {s : State} (hs : s.status.busy = true) :
    (writeSlot sl w s).status.busy = true := by
  by_cases hsl : sl = .status
  · rw [hsl, writeSlot_status, State.writeStatus_status, Status.writeOneToClear_eq]
    exact hs
  · rw [writeSlot_of_busy hsl hs]
    exact hs

/-- The host cannot stop an operation (10_state.md R23). -/
theorem hostStep_busy {a : HostAction} {s t : State} (h : hostStep a s = .next t) (hs : s.status.busy = true) :
    t.status.busy = true := by
  obtain ⟨v, rfl⟩ | ⟨sl, w, rfl⟩ | ⟨b, v, rfl⟩ := hostStep_cases h
  · exact hs
  · exact writeSlot_busy hs
  · exact hs

/-- Only the Engine's turn and a reset clear BUSY. -/
theorem takeTurn_busy {u : Turn} {s t : State} (he : u ≠ .engine) (hr : u ≠ .reset) (h : takeTurn u s = .next t)
    (hs : s.status.busy = true) : t.status.busy = true := by
  cases u with
  | engine => exact absurd rfl he
  | reset => exact absurd rfl hr
  | exchangeStarts => cases h; simpa using hs
  | tick => cases h; exact hs
  | host a => exact hostStep_busy h hs

/-- The engine stops in a step that completes: `Finish`, or the decode step of an illegal word (30_encoding.md R52). -/
def Completes (s t : State) : Prop :=
  (s.phase = .decode ∧ t = s.finish .illegalOp .illegal) ∨ ∃ e c, s.phase = .finish e c ∧ t = s.finish e c

theorem exec_busy_falls {i : Instr} {s t : State} (h : exec i s = .next t) (hs : s.status.busy = true)
    (ht : t.status.busy = false) : Completes s t := by
  obtain ⟨-, rfl⟩ | ⟨hp, rfl⟩ | hfinish | ⟨-, hf⟩ := exec_cases h
  · simp [hs] at ht
  · cases hl : legalOp i s.count with
    | false => exact .inl ⟨hp, rfl⟩
    | true => simp [hl, hs] at ht
  · exact .inr hfinish
  · simp [hf.busy, hs] at ht

theorem engineTurn_busy_falls {s t : State} (h : engineTurn s = .next t) (hs : s.status.busy = true)
    (ht : t.status.busy = false) : Completes s t := by
  obtain rfl | ⟨-, i, -, he⟩ | hillegal := engineTurn_cases h
  · simp [hs] at ht
  · exact exec_busy_falls he hs ht
  · exact .inl hillegal

theorem takeTurn_busy_falls {u : Turn} {s t : State} (hr : u ≠ .reset) (h : takeTurn u s = .next t)
    (hs : s.status.busy = true) (ht : t.status.busy = false) : Completes s t := by
  by_cases he : u = .engine
  · subst he
    exact engineTurn_busy_falls h hs ht
  · simp [takeTurn_busy he hr h hs] at ht

/-! ## The completion table (60_exceptions.md R114) -/

/-- XFER and COUNT are read past `Finish`, which moves neither. -/
@[simp] theorem xferAt_finish (i : Instr) (err e : ErrCode) (c : CompletionClass) (s : State) :
    xferAt i err (s.finish e c) = xferAt i err s := by
  cases i <;> rfl

/-- The invariant at a `Finish` position: the operation in OP completes as R114 says. -/
theorem State.endFits_of_inv {s : State} {e : ErrCode} {c : CompletionClass} (h : s.inv = true)
    (hp : s.phase = .finish e c) : ∃ i, decode s.op = .ok i ∧ endFits i e c s = true := by
  obtain ⟨-, -, i, hi, -, hfit⟩ := (State.inv_of_running (by simp [hp]) (by simp [hp])).mp h
  exact ⟨i, hi, phaseFits_finish hp ▸ hfit⟩

/-- Settles O42: BUSY falls only where an operation completes; at a `Finish` position the invariant has the record, and an
illegal word's is still clear. -/
theorem everyCompletionIsInTheTable : Obligations.EveryCompletionIsInTheTable := by
  intro s t hinv hstep hs ht
  by_cases hreset : s.sched.head? = some .reset
  · exact .inl hreset
  rw [step_eq_takeTurn] at hstep
  right
  obtain ⟨hp, rfl⟩ | ⟨e, c, hp, rfl⟩ := takeTurn_busy_falls (State.nextTurn_ne_reset hreset) hstep hs ht
  · obtain ⟨-, -, hclear, -⟩ := (State.inv_of_decode hp).mp hinv
    exact .inl ⟨rfl, rfl, (recordClear_iff.mp hclear).1, hp⟩
  · obtain ⟨i, hi, hfit⟩ := State.endFits_of_inv hinv hp
    obtain ⟨hmem, hretry, hstop, hcheck, hxfer⟩ := endFits_iff.mp hfit
    exact .inr ⟨i, hi, hmem, hretry, hstop, hcheck, (xferAt_finish ..).trans hxfer⟩

/-! ## The interrupt output (60_exceptions.md R117) -/

theorem State.irq_of_done_false {s : State} (h : s.status.done = false) : s.irq = false := by
  simp [State.irq, h]

@[simp] theorem State.irq_finish (s : State) (e : ErrCode) (c : CompletionClass) : (s.finish e c).irq = s.ctrl.ie :=
  Bool.true_and _

theorem step_reset {s : State} {rest : List Turn} (h : s.sched = .reset :: rest) :
    step s = .next ({ s with sched := rest } : State).hardReset := by
  rw [step_eq_takeTurn, State.nextTurn_of_head (by rw [h]; rfl), h]
  rfl

/-- Settles O44: DONE and IE after `Finish`, after a write to STATUS, CTRL and OP, and after a reset. -/
theorem irqFollowsDoneAndEnable : Obligations.IrqFollowsDoneAndEnable := by
  intro s w rest
  refine ⟨rfl, ?_, ?_, ?_, ?_, ?_⟩
  · intro i t err cls hp h
    cases (exec_finish i hp).symm.trans h
    exact State.irq_finish ..
  · intro t hsched hbit h
    rw [step_host hsched, hostStep_regWrite (sl := .status) rfl, writeSlot_status] at h
    cases h
    refine State.irq_of_done_false ?_
    rw [State.writeStatus_status, Status.writeOneToClear_eq]
    exact if_pos hbit
  · intro t hsched hb h
    rw [step_regWrite_of_not_busy (sl := .ctrl) hsched hb rfl nofun] at h
    cases h
    rfl
  · intro t hsched hb h
    rw [step_regWrite_of_not_busy (sl := .op) hsched hb rfl nofun] at h
    cases h
    exact State.irq_of_done_false rfl
  · intro t hsched h
    rw [step_reset hsched] at h
    cases h
    exact State.irq_of_done_false rfl

end Sys2Proof.Machine
end

section
/-! PROOFS. The platform's reset (70_reset_and_hazards.md R120, R121). -/

namespace Sys2Proof.Machine

/-! ## The values right after reset (70_reset_and_hazards.md R121) -/

/-- CTRL and the two limits are the only slots with a reset value other than 0. -/
theorem readSlot_reset_eq_zero {sl : Slot} (h : sl ∉ [Slot.ctrl, .toutRead, .toutBusy]) :
    readSlot sl State.reset = 0#32 := by
  cases sl with
  | ctrl | toutRead | toutBusy => simp at h
  | _ => rfl

@[simp] theorem State.irq_reset : State.reset.irq = false :=
  State.irq_of_done_false rfl

/-- Settles O59: the three slots with a value of their own, every other slot by `readSlot_reset_eq_zero`, and the
internal state by its definition. -/
theorem resetValuesAreTheSpecs : Obligations.ResetValuesAreTheSpecs :=
  ⟨rfl, fun _ => readSlot_reset_eq_zero, rfl, rfl, rfl, rfl, rfl, rfl, rfl, State.irq_reset, rfl⟩

/-- STATUS after reset is the record of an operation that ended well (60_exceptions.md R114). -/
theorem State.idleRecord_reset : IdleRecord State.reset where
  busy := rfl
  pair := iff_of_true rfl rfl
  retryable := rfl

/-- Settles O50: the engine is idle after reset, so only its memory and its record count. -/
theorem resetMeetsTheInvariant : Obligations.ResetMeetsTheInvariant :=
  (State.inv_of_idle rfl).mpr ⟨State.reset_mem_wf, State.idleRecord_reset⟩

/-! ## Reset at any point (70_reset_and_hazards.md R120) -/

/-- No register outlives a reset: what the host's side keeps is in no slot. -/
@[simp] theorem readSlot_hardReset (sl : Slot) (s : State) : readSlot sl s.hardReset = readSlot sl State.reset := by
  cases sl <;> rfl

@[simp] theorem State.irq_hardReset (s : State) : s.hardReset.irq = false :=
  State.irq_of_done_false rfl

@[simp] theorem State.byteAt_hardReset (s : State) (a : Word) : s.hardReset.byteAt a = s.byteAt a :=
  State.byteAt_congr rfl a

/-- Settles O60: the next state is `hardReset` (`step_reset`), whatever operation was at work. -/
theorem resetAbandonsTheOperation : Obligations.ResetAbandonsTheOperation := by
  intro s rest hsched
  exact ⟨_, step_reset hsched, fun sl => readSlot_hardReset sl _, rfl, rfl, rfl, rfl, rfl, rfl, State.irq_hardReset _,
    State.byteAt_hardReset _, rfl⟩

end Sys2Proof.Machine
end
